-- ==== Sys2Proof/Word.lean ====
section
/-! DEFINITION. The words and index types of the HL1240: bytes, fixed-width identities and the numbered
bays, lanes, positions, sites, levels and key slots of 00_scope.md 1.5 (R2). -/

namespace Sys2Proof

/-- One byte of a host frame, a lane frame or a reply body (R4). -/
abbrev Byte := BitVec 8

/-- A 16-byte value: a master key, a tag key, a nonce, a response or a proof (R42, R43). -/
abbrev Key := BitVec 128

/-- The 8-byte identity of a cartridge tag (R5). -/
abbrev Serial := BitVec 64

/-- A product code or slot code: ink family in the high byte, colour in the low byte (R6). -/
abbrev Code := BitVec 16

/-- Bays are numbered 0..11 (R2). -/
abbrev Bay := Fin 12

/-- Lanes are numbered 0..2 (R2). -/
abbrev Lane := Fin 3

/-- A bay's position on its lane, 0..3 (R2). -/
abbrev Position := Fin 4

/-- A converter channel: 0..11 the level sensors, 12..14 the lane supplies (R136). -/
abbrev Channel := Fin 15

/-- A notice site: bays 0..11, lanes 12..14, the device 15 (00_scope.md 1.5). -/
abbrev Site := Fin 16

/-- A notice level 0..3, 0 the most urgent (R158). -/
abbrev Level := Fin 4

/-- A master key slot 0..7 (R42). -/
abbrev KeySlot := Fin 8

end Sys2Proof
end

