-- ==== Sys2Proof/Syntax.lean ====
section
/-! DEFINITION. The commands of the HL1240: one constructor per row of spec/opcode_table.json. -/

namespace Sys2Proof

/-- What a presence input reports, raw or filtered (R7). -/
inductive Presence where
  | absent
  | seated
  deriving DecidableEq, Repr

/-- The commands. A row that is the take of a queued request (R172) has no operand of its own: the ticket, the kind
code and the body are those of the request at the head of the request queue (log 3). -/
inductive Instr where
  /-- FRAME_START (R169). -/
  | frameStart
  /-- ITEM_DELIVERY (R169): the frame ends after the host clocked so many bytes of it. -/
  | itemDelivery (clocked : Nat)
  /-- EMPTY_FRAME (R170). -/
  | emptyFrame
  /-- LINK_RESET (R174). -/
  | linkReset
  /-- REQUEST_FRAME (R170): the host half, byte 0 first, as far as the host clocked it. -/
  | requestFrame (bytes : List Byte)
  /-- UNKNOWN_KIND (R172). -/
  | unknownKind
  /-- STATUS_GET (R176). -/
  | statusGet
  /-- BAY_GET (R20). -/
  | bayGet
  /-- METER_GET (R96). -/
  | meterGet
  /-- TABLE_GET (R74). -/
  | tableGet
  /-- TALLY (R82). -/
  | tally
  /-- PURGE_REPORT (R83). -/
  | purgeReport
  /-- RETURN_REPORT (R87). -/
  | returnReport
  /-- DROPS_SET (R78). -/
  | dropsSet
  /-- LEVELS_SET (R121). -/
  | levelsSet
  /-- SENSE_SET (R143). -/
  | senseSet
  /-- COMMIT_SET (R99). -/
  | commitSet
  /-- SLOT_SET (R6). -/
  | slotSet
  /-- SUPPLY_SET (R151). -/
  | supplySet
  /-- ROUTE_SET (R158). -/
  | routeSet
  /-- MASK_SET (R159). -/
  | maskSet
  /-- POLICY_SET (R190). -/
  | policySet
  /-- KEY_REVOKE (R190). -/
  | keyRevoke
  /-- SEAL (R190). -/
  | seal
  /-- BAY_RECHECK (R17). -/
  | bayRecheck
  /-- BAY_RELEASE (R114). -/
  | bayRelease
  /-- BAY_DISABLE (R18). -/
  | bayDisable
  /-- BAY_ENABLE (R19). -/
  | bayEnable
  /-- COMMIT_RETRY (R112). -/
  | commitRetry
  /-- SURVEY_RUN (R152). -/
  | surveyRun
  /-- STORE_SAVE (R187). -/
  | storeSave
  /-- RESTART (R189). -/
  | restart
  /-- DOZE (R165). -/
  | doze
  /-- NOTICE_DONE (R163). -/
  | noticeDone
  /-- RAW_PRESENCE_CHANGE (R7): the raw input of a bay now reports `level`. -/
  | rawPresenceChange (bay : Bay) (level : Presence)
  /-- PRESENCE_WINDOW_EXPIRY (R7). -/
  | presenceWindowExpiry (bay : Bay)
  /-- TAG_REPLY (R26): the bytes of a reply that completes on a lane, byte 0 first. -/
  | tagReply (lane : Lane) (bytes : List Byte)
  /-- REPLY_TIMER_EXPIRY (R26). -/
  | replyTimerExpiry (lane : Lane)
  /-- HOLD_LIMIT_EXPIRY (R132). -/
  | holdLimitExpiry (bay : Bay)
  /-- SURVEY_TIMER_EXPIRY (R140). -/
  | surveyTimerExpiry (bay : Bay)
  /-- SUPPLY_TIMER_EXPIRY (R141). -/
  | supplyTimerExpiry (lane : Lane)
  /-- CONVERSION_COMPLETE (R137): the 10-bit raw reading. -/
  | conversionComplete (raw : BitVec 10)
  /-- STORE_WRITE_COMPLETE (R186): whether the section write succeeded. -/
  | storeWriteComplete (success : Bool)
  /-- PFAIL_ASSERT (R188). -/
  | pfailAssert
  /-- PFAIL_DEASSERT (R188). -/
  | pfailDeassert
  /-- POWER_ON (R185). -/
  | powerOn
  /-- RESET_PIN (R185). -/
  | resetPin
  /-- LOAD_COMPLETION (R185): whether the store answered, and which stored sections the load finds with a wrong
  CRC-16 (R184, log 6). -/
  | loadCompletion (answered policyDamaged settingsDamaged tableDamaged : Bool)
  /-- LANE_COMMAND_END (R26). -/
  | laneCommandEnd (lane : Lane)
  deriving DecidableEq, Repr

end Sys2Proof
end

