-- ==== Sys2Proof/Machine/Bytes.lean ====
section
/-! DEFINITION. Byte order and the two frame checks of 00_scope.md 1.7 (R4). -/

namespace Sys2Proof.Machine

/-- The `n` bytes of `v`, most significant first (R4); bits of `v` above them are not sent. -/
def toBytes : Nat → Nat → List Byte
  | 0, _ => []
  | n + 1, v => BitVec.ofNat 8 (v / 256 ^ n) :: toBytes n v

/-- The number that bytes spell, most significant first (R4). -/
def ofBytes (bs : List Byte) : Nat := bs.foldl (fun acc b => acc * 256 + b.toNat) 0

/-- One bit of the CRC-16 with polynomial 0x1021, most significant bit first (1.7). -/
def crc16Bit (crc : BitVec 16) : BitVec 16 := if crc.msb then (crc <<< 1) ^^^ 0x1021 else crc <<< 1

/-- One byte of the CRC-16. -/
def crc16Byte (crc : BitVec 16) (b : Byte) : BitVec 16 :=
  crc16Bit (crc16Bit (crc16Bit (crc16Bit (crc16Bit (crc16Bit (crc16Bit (crc16Bit
    (crc ^^^ (b.setWidth 16 <<< 8)))))))))

/-- The host link check: initial value 0xFFFF, no final inversion (1.7). -/
def crc16 (bs : List Byte) : BitVec 16 := bs.foldl crc16Byte 0xFFFF

/-- One bit of the CRC-8 with polynomial 0x07, most significant bit first (1.7). -/
def crc8Bit (crc : BitVec 8) : BitVec 8 := if crc.msb then (crc <<< 1) ^^^ 0x07 else crc <<< 1

/-- One byte of the CRC-8. -/
def crc8Byte (crc : BitVec 8) (b : Byte) : BitVec 8 :=
  crc8Bit (crc8Bit (crc8Bit (crc8Bit (crc8Bit (crc8Bit (crc8Bit (crc8Bit (crc ^^^ b))))))))

/-- The tag record check and the lane frame check: initial value 0x00, no final inversion (1.7). -/
def crc8 (bs : List Byte) : BitVec 8 := bs.foldl crc8Byte 0

/-- A frame of a lane: its bytes and then its frame check (R183). -/
def withCheck (bs : List Byte) : List Byte := bs ++ [crc8 bs]

/-- The `n` bytes at `at'` of a frame or body, as a number; bytes beyond its end count as absent. -/
def field (bs : List Byte) (start n : Nat) : Nat := ofBytes ((bs.drop start).take n)

/-- A yes/no value in a one-byte field: 1 for yes (log 22). -/
def flagByte (b : Bool) : Byte := if b then 1 else 0

/-- A one-byte field whose value may be absent: 0xFF when it is (R177). -/
def byteOrAbsent : Option Nat → List Byte
  | none => [0xFF]
  | some v => toBytes 1 v

/-- A two-byte field whose value may be absent: 0xFFFF when it is (R177). -/
def wordOrAbsent : Option Nat → List Byte
  | none => [0xFF, 0xFF]
  | some v => toBytes 2 v

/-- A field of three or more bytes whose value may be absent: 0 when it is (R177). -/
def wideOrAbsent (n : Nat) (v : Option Nat) : List Byte := toBytes n (v.getD 0)

/-- `bits` of a byte by position, most significant first. -/
def bitsByte (b7 b6 b5 b4 b3 b2 b1 b0 : Bool) : Byte :=
  BitVec.ofBool b7 ++ BitVec.ofBool b6 ++ BitVec.ofBool b5 ++ BitVec.ofBool b4 ++
    BitVec.ofBool b3 ++ BitVec.ofBool b2 ++ BitVec.ofBool b1 ++ BitVec.ofBool b0

end Sys2Proof.Machine
end

