-- ==== Sys2Proof/Config.lean ====
section
/-! DEFINITION. What one made part fixes and the spec leaves open: free constants with no body. No proof can see what
they are, so a claim holds whatever they are. -/

namespace Sys2Proof

/-- D, the part's fixed keyed digest: a 16-byte key and a message of at most 32 bytes give a 16-byte value. "Its
internal construction is not disclosed" (R43, log 10). -/
opaque Config.digest : Key → List Byte → Key

/-- The random source: the 16 fresh bytes of draw number n (R44, log 11). -/
opaque Config.nonce : Nat → Key

/-- The eight master key slots as the part was made: empty, or holding a key (R42, log 9). -/
opaque Config.masterKeys : Vector (Option Key) 8

/-- What a query reply sends in a bit field whose value is absent, at time `now`: fields 0..2 are the operation, step and
abandoned bits of an IDLE lane, the low four of field 3 the channel bits of an IDLE converter, and the lowest of field 4
the ceiling flag in a METER_GET of a bay that holds no binding figures. The spec states no value (R182, log 21). -/
opaque Config.absentBits (now field : Nat) : BitVec 5

end Sys2Proof
end

