-- ==== Sys2Proof/Machine/Types.lean ====
section
/-! DEFINITION. The records the eleven blocks of the HL1240 hold: plain data, under the manual's names. A value that is
present in some states only is an argument of the constructor of those states, or an Option. -/

namespace Sys2Proof.Machine

/-! ### Device, save state and store (chapter 11) -/

/-- Device state (R185). -/
inductive DeviceState where
  | starting
  | running
  | faulted
  deriving DecidableEq, Repr

/-- Save state of the power-fail save (R188). -/
inductive SaveState where
  | none
  | saving
  | saved
  deriving DecidableEq, Repr

/-- Reject mode (R126). -/
inductive RejectMode where
  | inhibit
  | allow
  deriving DecidableEq, Repr

/-- Refill mode and out mode (R126); also the permit target of R127. -/
inductive PermitMode where
  | allow
  | atSwath
  | inhibit
  deriving DecidableEq, Repr

/-- The POLICY section (R184). -/
structure Policy where
  isSealed : Bool
  allowed : BitVec 8
  rejectMode : RejectMode
  refillMode : PermitMode
  outMode : PermitMode
  deriving DecidableEq, Repr

/-- A threshold pair in pm of capacity (R120). -/
structure Thresholds where
  low : Nat
  out : Nat
  deriving DecidableEq, Repr

/-- A calibration record (R142). -/
structure Calib where
  empty : Nat
  full : Nat
  margin : Nat
  persist : Nat
  period : Nat
  deriving DecidableEq, Repr

/-- One bay's part of the SETTINGS section (R184). -/
structure BaySettings where
  vol : Vector Nat 4
  scale : Nat
  purgeRate : Nat
  commitStep : Nat
  slotCode : Code
  disabled : Bool
  stored : Thresholds
  calib : Calib
  deriving DecidableEq, Repr

/-- The SETTINGS section (R184): the routing gives each kind code 0..12 its level (R158). -/
structure Settings where
  bays : Vector BaySettings 12
  holdRaw : Nat
  routing : Vector Level 13
  levelMask : BitVec 4
  wakeMask : BitVec 4
  deriving DecidableEq, Repr

/-! ### The known-cartridge table (chapter 4) -/

/-- Evidence kinds (R5). -/
inductive EvidenceKind where
  | levelRise
  | reinsertRise
  | rollback
  | advanceRefused
  | knownRefilled
  deriving DecidableEq, Repr

/-- An unsure target T_U with its flight amount F_U (R61). -/
structure Unsure where
  target : Nat
  amount : Nat
  deriving DecidableEq, Repr

/-- A table entry (R61); the REFILLED mark is its first kind, when present. -/
structure Entry where
  serial : Serial
  product : Code
  capacity : Nat
  high : Nat
  owed : Nat
  unsure : Option Unsure
  lastSensed : Option Nat
  refilled : Option EvidenceKind
  cloneSeen : Bool
  bay : Option Bay
  deriving DecidableEq, Repr

/-! ### Store writer (chapter 11) -/

/-- The three sections, in the order a walk picks them (R186). -/
inductive StoreSection where
  | table
  | policy
  | settings
  deriving DecidableEq, Repr

/-- A set of sections. -/
structure Sections where
  table : Bool
  policy : Bool
  settings : Bool
  deriving DecidableEq, Repr

/-- The copy a section write took when it began (R73, R186). -/
inductive SectionCopy where
  | table (entries : List Entry)
  | policy (p : Policy)
  | settings (s : Settings)
  deriving DecidableEq, Repr

/-- The store writer: IDLE is `writing = none` (R186). -/
structure Writer where
  writing : Option SectionCopy
  dirty : Sections
  failed : Sections
  deriving DecidableEq, Repr

/-- The stored copies; `none` is a section whose CRC-16 fails (R184, log 6). -/
structure Store where
  policy : Option Policy
  settings : Option Settings
  table : Option (List Entry)
  deriving DecidableEq, Repr

/-- The one-way area (R184): the seal mark and one revoked mark per key slot. -/
structure OneWay where
  sealMark : Bool
  revoked : BitVec 8
  deriving DecidableEq, Repr

/-- A STORE_SAVE or RESTART that waits for the end of a walk (R187, R189). `reserved` is false once a link reset has
removed its reservation (R174). -/
structure SaveWaiter where
  isRestart : Bool
  ticket : Byte
  reserved : Bool
  deriving DecidableEq, Repr

/-! ### Meter and commit records (chapters 5 and 6) -/

/-- Ink state, from the least to the most severe (R101, R123). -/
inductive InkState where
  | normal
  | low
  | out
  deriving DecidableEq, Repr

/-- The figures a bay holds in ACTIVE, RELEASED and REJECTED (R75). -/
structure DrawFigures where
  remainder : Nat
  drawn : Nat
  swath : Nat
  lastSwath : Nat
  deriving DecidableEq, Repr

/-- The figures a bay holds in ACTIVE and RELEASED only (R75). -/
structure Account where
  committed : Nat
  pending : Nat
  inflight : Nat
  charged : Nat
  carried : Nat
  fine : Nat
  credited : Nat
  ceiling : Bool
  deriving DecidableEq, Repr

/-- Commit state with its target T where one is present (R97). `asFinal` tells a flight launched as FINAL, or the
reconcile of one, from that of a COMMIT (R115, log 27). -/
inductive CommitState where
  | idle
  | queued
  | inFlight (target : Nat) (asFinal : Bool)
  | reconciling (target : Nat) (asFinal : Bool)
  | stopped
  | uncertain (target : Nat)
  deriving DecidableEq, Repr

/-- A release in progress: the ticket of its BAY_RELEASE (R97), and whether its reservation is still held (R174). -/
structure Release where
  ticket : Byte
  reserved : Bool
  deriving DecidableEq, Repr

/-- The commit record (R97). -/
structure Commit where
  state : CommitState
  levelSeen : InkState
  release : Option Release
  deriving DecidableEq, Repr

/-- Everything a bay holds while it is bound: binding fields (R5), meter figures (R75), commit record (R97), ink state
(R123) and reinsert check (R147). `evidence` lists distinct kinds in order of joining; its head is the first kind. -/
structure Binding where
  serial : Serial
  product : Code
  capacity : Nat
  keyIndex : KeySlot
  evidence : List EvidenceKind
  acct : Account
  draw : DrawFigures
  commit : Commit
  ink : InkState
  reinsert : Bool
  deriving DecidableEq, Repr

/-! ### Bays (chapters 1, 7 and 8) -/

/-- Reject reasons (R5). -/
inductive RejectReason where
  | noReply
  | recordInvalid
  | keyRevoked
  | badResponse
  | wrongInk
  | duplicateSerial
  deriving DecidableEq, Repr

/-- The bay state with what is present in it alone (R5, R75): a bay is bound in `active` and `released`. -/
inductive Phase where
  | off
  | vacant
  | seated
  | identifying
  | active (b : Binding)
  | rejected (reason : RejectReason) (draw : DrawFigures)
  | released (b : Binding)
  deriving DecidableEq, Repr

/-- The four lane operations (chapter 2); also what a lane request slot may hold (R5). -/
inductive OpKind where
  | identify
  | commit
  | reconcile
  | final
  deriving DecidableEq, Repr

/-- A presence window: the level it waits for and the ms the input has held it (R7). -/
structure Window where
  level : Presence
  ms : Nat
  deriving DecidableEq, Repr

/-- A presence filter (R7). -/
structure Filter where
  level : Presence
  window : Option Window
  deriving DecidableEq, Repr

/-- A permit line; the hold-limit timer is present in ALLOW_ARMED only (R128). -/
inductive Line where
  | inhibit
  | allow
  | armed (ms : Nat)
  deriving DecidableEq, Repr

/-- What the part holds per bay beside the stored settings. -/
structure BayRec where
  phase : Phase
  slot : Option OpKind
  filter : Filter
  thresholds : Thresholds
  staged : Option Thresholds
  line : Line
  wanted : Bool
  surveyTimer : Option Nat
  due : Option Nat
  counter : Nat
  deriving DecidableEq, Repr

/-! ### Lanes (chapter 2) -/

/-- The three transactions (R22). -/
inductive TagStep where
  | readRecord
  | challenge
  | advance
  deriving DecidableEq, Repr

/-- The tag record of a READ_RECORD reply, less its record check (R28). -/
structure TagRecord where
  serial : Serial
  product : Code
  capacity : Nat
  counter : Nat
  keyIndex : Nat
  fillWeek : Nat
  deriving DecidableEq, Repr

/-- The BUSY fields of a lane record (R22) and what the lane engine holds for the operation: the nonce of the attempt
(R29), the record of an IDENTIFY (R35), whether an attempt took a valid reply with a bad record (R28), and the command
frame (R183). While `timer` is absent the command is still being sent (R26, log 28). -/
structure Running where
  position : Position
  op : OpKind
  step : TagStep
  attempt : Nat
  abandoned : Bool
  opNonce : Option Key
  timer : Option Nat
  nonce : Option Key
  record : Option TagRecord
  badRecord : Bool
  command : List Byte
  deriving DecidableEq, Repr

/-- A lane record: IDLE is `running = none` (R22); with its last supply reading (R155) and the supply timer and due
time of its converter channel (R141). -/
structure LaneRec where
  running : Option Running
  lastServed : Position
  writeHold : Bool
  lastSupply : Option Nat
  supplyTimer : Option Nat
  supplyDue : Option Nat
  deriving DecidableEq, Repr

/-! ### Converter and survey run (chapter 8) -/

/-- A conversion in progress (R136). -/
structure Conversion where
  channel : Channel
  discard : Bool
  deriving DecidableEq, Repr

/-- A set of bays. -/
abbrev BaySet := Vector Bool 12

/-- The SURVEY_RUN record (R152). `members b` is present while b's conversion has not ended and tells whether it has
been taken. -/
structure SurveyRun where
  listed : BaySet
  passesLeft : Nat
  passesRun : Nat
  members : Vector (Option Bool) 12
  skipped : BaySet
  results : Vector (Option (Nat × Nat)) 12
  ticket : Byte
  reserved : Bool
  deriving DecidableEq, Repr

/-! ### Notices and link (chapters 9 and 10) -/

/-- Notice kinds, in code order (R156). -/
inductive Kind where
  | seated
  | vacated
  | bound
  | rejected
  | inkLow
  | inkOut
  | refill
  | duplicate
  | commitFault
  | uncharged
  | laneHold
  | storeFault
  | saved
  deriving DecidableEq, Repr

/-- A site and a kind code, as a notice record holds them (R161). -/
structure NoticePair where
  site : Site
  kind : Fin 13
  deriving DecidableEq, Repr

/-- Link status (R178). -/
inductive LinkStatus where
  | taken
  | none
  | full
  | badCheck
  | badLength
  | notReady
  deriving DecidableEq, Repr

/-- Results of replies (R178). -/
inductive Result where
  | ok
  | partially
  | unknownKind
  | badArg
  | bayState
  | busy
  | isSealed
  | faulted
  | commitUncertain
  deriving DecidableEq, Repr

/-- Request kinds (R179). -/
inductive ReqKind where
  | statusGet
  | bayGet
  | meterGet
  | tableGet
  | tally
  | purgeReport
  | returnReport
  | dropsSet
  | levelsSet
  | senseSet
  | commitSet
  | slotSet
  | supplySet
  | routeSet
  | maskSet
  | policySet
  | keyRevoke
  | seal
  | bayRecheck
  | bayRelease
  | bayDisable
  | bayEnable
  | commitRetry
  | surveyRun
  | storeSave
  | restart
  | doze
  | noticeDone
  deriving DecidableEq, Repr

/-- An accepted request (R171): ticket, kind code and body. -/
structure Request where
  ticket : Byte
  kind : Byte
  body : List Byte
  deriving DecidableEq, Repr

/-- A placed reply (R173, R178). -/
structure Reply where
  ticket : Byte
  kind : Byte
  result : Result
  body : List Byte
  deriving DecidableEq, Repr

/-- The item of an outbound frame (R169). -/
inductive Item where
  | idle
  | reply (r : Reply)
  | notice (level : Level) (pairs : List NoticePair)
  deriving DecidableEq, Repr

/-- The outbound frame as it was built at the last frame start (R169); `toDeliver` until its item has been delivered or
a link reset has removed it (R174). -/
structure Frame where
  status : LinkStatus
  item : Item
  toDeliver : Bool
  deriving DecidableEq, Repr

end Sys2Proof.Machine
end

