-- ==== Sys2Proof/Machine/Operands.lean ====
section
/-! DEFINITION. Every operand form the spec gives: the kind codes and body lengths of requests (R179), the fields of
their bodies (R177, R180), the codes of enumerated fields (R181) and the fields of tag replies (R183). -/

namespace Sys2Proof.Machine

/-! ### Request kinds -/

/-- The kind code of a request kind (R179). -/
def ReqKind.code : ReqKind → Byte
  | .statusGet => 0x01
  | .bayGet => 0x02
  | .meterGet => 0x03
  | .tableGet => 0x04
  | .tally => 0x10
  | .purgeReport => 0x11
  | .returnReport => 0x12
  | .dropsSet => 0x20
  | .levelsSet => 0x21
  | .senseSet => 0x22
  | .commitSet => 0x23
  | .slotSet => 0x24
  | .supplySet => 0x25
  | .routeSet => 0x26
  | .maskSet => 0x27
  | .policySet => 0x30
  | .keyRevoke => 0x31
  | .seal => 0x32
  | .bayRecheck => 0x40
  | .bayRelease => 0x41
  | .bayDisable => 0x42
  | .bayEnable => 0x43
  | .commitRetry => 0x44
  | .surveyRun => 0x50
  | .storeSave => 0x51
  | .restart => 0x52
  | .doze => 0x53
  | .noticeDone => 0x54

/-- Every request kind (R179). -/
def ReqKind.all : List ReqKind :=
  [.statusGet, .bayGet, .meterGet, .tableGet, .tally, .purgeReport, .returnReport, 
   .dropsSet, .levelsSet, .senseSet, .commitSet, .slotSet, .supplySet, .routeSet, .maskSet, .policySet, .keyRevoke, .seal, 
   .bayRecheck, .bayRelease, .bayDisable, .bayEnable, .commitRetry, .surveyRun, .storeSave, .restart, .doze, .noticeDone]

/-- The request kind a code names, if it names one (R172). -/
def ReqKind.ofCode (c : Byte) : Option ReqKind := ReqKind.all.find? fun k => k.code == c

/-- The body lengths a kind allows (R179, R177). The lengths 1, 5, .., 57 of a TALLY are those of 0..14 entries; whether
its count field agrees is judged by `TallyBody.parse`. -/
def ReqKind.lengthOk : ReqKind → Nat → Bool
  | .statusGet, n => n == 0
  | .bayGet, n => n == 1
  | .meterGet, n => n == 1 || n == 2
  | .tableGet, n => n == 1
  | .tally, n => n != 0 && n % 4 == 1 && n ≤ 57
  | .purgeReport, n => n == 3
  | .returnReport, n => n == 4
  | .dropsSet, n => n == 13
  | .levelsSet, n => n == 5
  | .senseSet, n => n == 10
  | .commitSet, n => n == 2
  | .slotSet, n => n == 3
  | .supplySet, n => n == 2
  | .routeSet, n => n == 2
  | .maskSet, n => n == 2
  | .policySet, n => n == 4
  | .keyRevoke, n => n == 1
  | .seal, n => n == 0
  | .bayRecheck, n => n == 1
  | .bayRelease, n => n == 1
  | .bayDisable, n => n == 1
  | .bayEnable, n => n == 1
  | .commitRetry, n => n == 1
  | .surveyRun, n => n == 3
  | .storeSave, n => n == 0
  | .restart, n => n == 0
  | .doze, n => n == 0
  | .noticeDone, n => n == 1

/-! ### Numbered operands -/

/-- A bay number, unless it is above 11. -/
def bayOf? (n : Nat) : Option Bay := if h : n < 12 then some ⟨n, h⟩ else none

/-- A key index, unless it is above 7. -/
def keySlotOf? (n : Nat) : Option KeySlot := if h : n < 8 then some ⟨n, h⟩ else none

/-- A notice level, unless it is above 3. -/
def levelOf? (n : Nat) : Option Level := if h : n < 4 then some ⟨n, h⟩ else none

/-- A notice kind code, unless it is above 12. -/
def kindOf? (n : Nat) : Option (Fin 13) := if h : n < 13 then some ⟨n, h⟩ else none

/-- The reject mode a code names (R181). -/
def rejectModeOf? : Nat → Option RejectMode
  | 0 => some .inhibit
  | 1 => some .allow
  | _ => none

/-- The refill or out mode a code names (R181). -/
def permitModeOf? : Nat → Option PermitMode
  | 0 => some .allow
  | 1 => some .atSwath
  | 2 => some .inhibit
  | _ => none

/-- The value of `v` clamped to `lo..hi` (R1). -/
def clamp (lo hi v : Nat) : Nat := max lo (min hi v)

/-! ### TALLY -/

/-- One tally entry: bay 0..15, drop class and count (R180). PRINT and SPIT are charged alike (R79). -/
structure TallyEntry where
  bay : Nat
  dropClass : Fin 4
  count : Nat
  deriving DecidableEq, Repr

/-- A TALLY body (R180). -/
structure TallyBody where
  swathEnd : Bool
  entries : List TallyEntry
  deriving DecidableEq, Repr

/-- The entry at `start` of a TALLY body (R180). -/
def TallyEntry.parse (body : List Byte) (start : Nat) : TallyEntry :=
  let b := field body start 1
  { bay := b / 16, dropClass := ⟨b / 4 % 4, Nat.mod_lt _ (by decide)⟩, count := field body (start + 1) 3 }

/-- A TALLY body, unless its count field exceeds 14 or disagrees with its length (R177, R180). -/
def TallyBody.parse (body : List Byte) : Option TallyBody :=
  let b := field body 0 1
  let n := b % 16
  if n ≤ 14 ∧ body.length = 1 + 4 * n then
    some { swathEnd := b / 128 == 1, entries := (List.range n).map fun i => TallyEntry.parse body (1 + 4 * i) }
  else none

/-! ### Codes of enumerated fields (R181) -/

/-- Bay state. -/
def Phase.code : Phase → Nat
  | .off => 0
  | .vacant => 1
  | .seated => 2
  | .identifying => 3
  | .active _ => 4
  | .rejected _ _ => 5
  | .released _ => 6

/-- Lane operation. -/
def OpKind.code : OpKind → Nat
  | .identify => 0
  | .commit => 1
  | .reconcile => 2
  | .final => 3

/-- Lane request slot: none is 0. -/
def slotCodeOf : Option OpKind → Nat
  | none => 0
  | some op => op.code + 1

/-- Step. -/
def TagStep.code : TagStep → Nat
  | .readRecord => 0
  | .challenge => 1
  | .advance => 2

/-- Reject reason. -/
def RejectReason.code : RejectReason → Nat
  | .noReply => 0
  | .recordInvalid => 1
  | .keyRevoked => 2
  | .badResponse => 3
  | .wrongInk => 4
  | .duplicateSerial => 5

/-- Evidence kind, and its bit in a set. -/
def EvidenceKind.code : EvidenceKind → Nat
  | .levelRise => 0
  | .reinsertRise => 1
  | .rollback => 2
  | .advanceRefused => 3
  | .knownRefilled => 4

/-- Commit state. -/
def CommitState.code : CommitState → Nat
  | .idle => 0
  | .queued => 1
  | .inFlight _ _ => 2
  | .reconciling _ _ => 3
  | .stopped => 4
  | .uncertain _ => 5

/-- Ink state; its order is also its severity (R101). -/
def InkState.code : InkState → Nat
  | .normal => 0
  | .low => 1
  | .out => 2

/-- Line state. -/
def Line.code : Line → Nat
  | .inhibit => 0
  | .allow => 1
  | .armed _ => 2

/-- Reject mode. -/
def RejectMode.code : RejectMode → Nat
  | .inhibit => 0
  | .allow => 1

/-- Refill mode and out mode; its order is also its restrictiveness (R127). -/
def PermitMode.code : PermitMode → Nat
  | .allow => 0
  | .atSwath => 1
  | .inhibit => 2

/-- Device state. -/
def DeviceState.code : DeviceState → Nat
  | .starting => 0
  | .running => 1
  | .faulted => 2

/-- Save state. -/
def SaveState.code : SaveState → Nat
  | .none => 0
  | .saving => 1
  | .saved => 2

/-- Store writer. -/
def writerCode : Option SectionCopy → Nat
  | none => 0
  | some (.table _) => 1
  | some (.policy _) => 2
  | some (.settings _) => 3

/-- Link status (R178). -/
def LinkStatus.code : LinkStatus → Nat
  | .taken => 0
  | .none => 1
  | .full => 2
  | .badCheck => 3
  | .badLength => 4
  | .notReady => 5

/-- Results (R178). -/
def Result.code : Result → Nat
  | .ok => 0
  | .partially => 1
  | .unknownKind => 2
  | .badArg => 3
  | .bayState => 4
  | .busy => 5
  | .isSealed => 6
  | .faulted => 7
  | .commitUncertain => 8

/-- Notice kind (R156). -/
def Kind.code : Kind → Fin 13
  | .seated => 0
  | .vacated => 1
  | .bound => 2
  | .rejected => 3
  | .inkLow => 4
  | .inkOut => 5
  | .refill => 6
  | .duplicate => 7
  | .commitFault => 8
  | .uncharged => 9
  | .laneHold => 10
  | .storeFault => 11
  | .saved => 12

/-! ### Numbering (R2) -/

/-- The lane that serves a bay. -/
def laneOf (b : Bay) : Lane := ⟨b.val / 4, by omega⟩

/-- A bay's position on its lane. -/
def positionOf (b : Bay) : Position := ⟨b.val % 4, by omega⟩

/-- The bay at a position of a lane. -/
def bayAt (l : Lane) (p : Position) : Bay := ⟨4 * l.val + p.val, by omega⟩

/-- A bay's converter channel (R136). -/
def bayChannel (b : Bay) : Channel := ⟨b.val, by omega⟩

/-- A lane's converter channel (R136). -/
def laneChannel (l : Lane) : Channel := ⟨12 + l.val, by omega⟩

/-- A bay's notice site. -/
def baySite (b : Bay) : Site := ⟨b.val, by omega⟩

/-- A lane's notice site. -/
def laneSite (l : Lane) : Site := ⟨12 + l.val, by omega⟩

/-- The device's notice site. -/
def deviceSite : Site := 15

/-- All bays, in order. -/
def allBays : List Bay := [0, 1, 2, 3, 4, 5, 6, 7, 8, 9, 10, 11]

/-- All lanes, in order. -/
def allLanes : List Lane := [0, 1, 2]

/-- All levels, the most urgent first. -/
def allLevels : List Level := [0, 1, 2, 3]

/-! ### Tag frames (R183) -/

/-- The length of a valid reply to a transaction (R26, R183). -/
def replyLength : TagStep → Nat
  | .readRecord => 22
  | .challenge => 21
  | .advance => 21

/-- Whether a reply's length, position and frame check are right (R26). -/
def replyFrameOk (step : TagStep) (p : Position) (bytes : List Byte) : Bool :=
  bytes.length == replyLength step && field bytes 0 1 == p.val &&
    bytes.getLast? == some (crc8 bytes.dropLast)

/-- Whether the record check of a READ_RECORD reply covers its 19 record bytes (R28, R183). -/
def recordCheckOk (bytes : List Byte) : Bool := field bytes 20 1 == (crc8 ((bytes.drop 1).take 19)).toNat

/-- The record fields of a READ_RECORD reply (R28, R183). -/
def TagRecord.parse (bytes : List Byte) : TagRecord :=
  { serial := BitVec.ofNat 64 (field bytes 1 8), product := BitVec.ofNat 16 (field bytes 9 2),
    capacity := field bytes 11 3, counter := field bytes 14 3, keyIndex := field bytes 17 1,
    fillWeek := field bytes 18 2 }

/-- The counter of a CHALLENGE or ADVANCE reply (R183). -/
def replyCounter (bytes : List Byte) : Nat := field bytes 1 3

/-- The response of a CHALLENGE or ADVANCE reply (R183). -/
def replyResponse (bytes : List Byte) : Key := BitVec.ofNat 128 (field bytes 4 16)

/-- READ_RECORD command (R183). -/
def readRecordCommand (p : Position) : List Byte := withCheck (toBytes 1 p.val ++ [0x01])

/-- CHALLENGE command (R183). -/
def challengeCommand (p : Position) (nonce : Key) : List Byte :=
  withCheck (toBytes 1 p.val ++ [0x02] ++ toBytes 16 nonce.toNat)

/-- ADVANCE command (R183). -/
def advanceCommand (p : Position) (target : Nat) (proof : Key) : List Byte :=
  withCheck (toBytes 1 p.val ++ [0x03] ++ toBytes 3 target ++ toBytes 16 proof.toNat)

end Sys2Proof.Machine
end

