-- ==== Sys2Proof/Machine/Factory.lean ====
section
/-! DEFINITION. The factory values of the stored sections (R184) and the records a cold start leaves. -/

namespace Sys2Proof.Machine

/-- The factory calibration, which is invalid (R142). -/
def Calib.factory : Calib := { empty := 0, full := 0, margin := 150, persist := 3, period := 1000 }

/-- The factory thresholds: low 100, out 0 (R120). -/
def Thresholds.factory : Thresholds := { low := 100, out := 0 }

/-- The factory settings of one bay (R76, R6, R120, R142; enabled). -/
def BaySettings.factory : BaySettings :=
  { vol := #v[0, 3000, 8000, 16000], scale := 1024, purgeRate := 0, commitStep := 8, slotCode := 0xFFFF,
    disabled := false, stored := Thresholds.factory, calib := Calib.factory }

/-- The factory routing, by kind code (R158). -/
def factoryRouting : Vector Level 13 := #v[3, 0, 3, 1, 2, 0, 1, 1, 0, 1, 2, 0, 2]

/-- The factory SETTINGS (R184): hold_raw 600 (R151), level mask empty, wake mask levels 0 and 1 (R159). -/
def Settings.factory : Settings :=
  { bays := Vector.replicate 12 BaySettings.factory, holdRaw := 600, routing := factoryRouting,
    levelMask := 0, wakeMask := 0b0011 }

/-- The factory POLICY: unsealed, all eight slots allowed, the modes of R126 (R184). -/
def Policy.factory : Policy :=
  { isSealed := false, allowed := 0xFF, rejectMode := .inhibit, refillMode := .allow, outMode := .atSwath }

/-- The strict POLICY a lost section takes: all eight slots less the revoked marks, every mode INHIBIT, sealed (R184). -/
def Policy.strict (o : OneWay) : Policy :=
  { isSealed := true, allowed := ~~~o.revoked, rejectMode := .inhibit, refillMode := .inhibit, outMode := .inhibit }

/-- A bay at cold start (R9, R128, R139, R146), with the factory thresholds until the load gives its pair. -/
def BayRec.cold : BayRec :=
  { phase := .off, slot := none, filter := { level := .absent, window := none }, thresholds := Thresholds.factory,
    staged := none, line := .inhibit, wanted := false, surveyTimer := none, due := none, counter := 0 }

/-- A lane at cold start (R22, R141, R155). -/
def LaneRec.cold : LaneRec :=
  { running := none, lastServed := 3, writeHold := false, lastSupply := none, supplyTimer := none, supplyDue := none }

/-- No section. -/
def Sections.empty : Sections := { table := false, policy := false, settings := false }

/-- The store writer at cold start: IDLE with an empty dirty set (R185). -/
def Writer.cold : Writer := { writing := none, dirty := Sections.empty, failed := Sections.empty }

end Sys2Proof.Machine
end

