-- ==== Sys2Proof/Machine/State.lean ====
section
/-! DEFINITION. The state of the HL1240, why a step can stop, and the state right after reset. INVENTORY.md lists each
field with the rule that names it. -/

namespace Sys2Proof.Machine

/-- Why a step stops with a fault: never. The spec gives every command of the table an effect, so no constructor is
needed (log 29). -/
inductive Fault where
  deriving DecidableEq, Repr

/-- Why a step has no meaning. -/
inductive Refusal where
  /-- Raised by an arm of `exec` whose command has no meaning yet; no arm does. Safe: the model stops. -/
  | notModelled (mnemonic : String)
  deriving DecidableEq, Repr

/-- The state of the part. -/
structure State where
  pending : List Instr
  now : Nat
  nonceDraws : Nat
  device : DeviceState
  save : SaveState
  restarting : Bool
  waiters : List SaveWaiter
  writer : Writer
  store : Store
  oneWay : OneWay
  policy : Policy
  settings : Settings
  pfail : Bool
  masterKeys : Vector (Option Key) 8
  raw : Vector Presence 12
  bays : Vector BayRec 12
  lanes : Vector LaneRec 3
  converter : Option Conversion
  run : Option SurveyRun
  table : List Entry
  latches : Vector (Vector (Option Level) 13) 16
  service : Vector (Option (List NoticePair)) 4
  dozing : Bool
  status : LinkStatus
  requests : List Request
  replies : List Reply
  frame : Option Frame
  deriving DecidableEq, Repr

/-- The part right after reset: a cold start has begun (R185) and the load of the sections is not yet complete. Values
the spec does not give (the stored sections, the inputs, the working sections before the load) are those of logs 7, 8
and 9. -/
def State.reset : State :=
  { pending := [], now := 0, nonceDraws := 0, device := .starting, save := .none, restarting := false, waiters := [],
    writer := Writer.cold,
    store := { policy := some Policy.factory, settings := some Settings.factory, table := some [] },
    oneWay := { sealMark := false, revoked := 0 }, policy := Policy.factory, settings := Settings.factory,
    pfail := false, masterKeys := Config.masterKeys, raw := Vector.replicate 12 .absent,
    bays := Vector.replicate 12 BayRec.cold, lanes := Vector.replicate 3 LaneRec.cold, converter := none, run := none,
    table := [], latches := Vector.replicate 16 (Vector.replicate 13 none), service := Vector.replicate 4 none,
    dozing := false, status := .notReady, requests := [], replies := [], frame := none }

end Sys2Proof.Machine
end

