-- ==== Sys2Proof/Machine/Ops.lean ====
section
/-! DEFINITION. The named operations every block shares: reading and writing one bay, lane and table entry, placing
replies, the latches, and the cold start. -/

namespace Sys2Proof.Machine

/-! ### Reading and writing the records -/

/-- One place of a fixed list, written. -/
def put {α : Type} {n : Nat} (v : Vector α n) (i : Fin n) (x : α) : Vector α n := v.set i.val x i.isLt

/-- Bay `b`'s record. -/
def State.bay (s : State) (b : Bay) : BayRec := s.bays[b]

/-- Bay `b`'s record, rewritten. -/
def State.modBay (s : State) (b : Bay) (f : BayRec → BayRec) : State := { s with bays := put s.bays b (f (s.bay b)) }

/-- Every bay's record, rewritten. -/
def State.mapBays (s : State) (f : Bay → BayRec → BayRec) : State :=
  { s with bays := Vector.ofFn fun b => f b (s.bay b) }

/-- Lane `l`'s record. -/
def State.lane (s : State) (l : Lane) : LaneRec := s.lanes[l]

/-- Lane `l`'s record, rewritten. -/
def State.modLane (s : State) (l : Lane) (f : LaneRec → LaneRec) : State :=
  { s with lanes := put s.lanes l (f (s.lane l)) }

/-- Every lane's record, rewritten. -/
def State.mapLanes (s : State) (f : Lane → LaneRec → LaneRec) : State :=
  { s with lanes := Vector.ofFn fun l => f l (s.lane l) }

/-- Bay `b`'s settings. -/
def State.bayCfg (s : State) (b : Bay) : BaySettings := s.settings.bays[b]

/-- Bay `b`'s settings, rewritten. -/
def State.modBayCfg (s : State) (b : Bay) (f : BaySettings → BaySettings) : State :=
  { s with settings := { s.settings with bays := put s.settings.bays b (f (s.bayCfg b)) } }

/-! ### Bay states -/

/-- The binding of a bound bay: ACTIVE or RELEASED (R5). -/
def Phase.binding? : Phase → Option Binding
  | .active bd => some bd
  | .released bd => some bd
  | .off => none
  | .vacant => none
  | .seated => none
  | .identifying => none
  | .rejected _ _ => none

/-- The binding of an ACTIVE bay. -/
def Phase.active? : Phase → Option Binding
  | .active bd => some bd
  | .released _ => none
  | .off => none
  | .vacant => none
  | .seated => none
  | .identifying => none
  | .rejected _ _ => none

/-- Whether the bay is ACTIVE. -/
def State.isActive (s : State) (b : Bay) : Bool := (s.bay b).phase.active?.isSome

/-- The binding held in a bay state, rewritten. -/
def Phase.mapBinding (f : Binding → Binding) : Phase → Phase
  | .active bd => .active (f bd)
  | .released bd => .released (f bd)
  | .off => .off
  | .vacant => .vacant
  | .seated => .seated
  | .identifying => .identifying
  | .rejected r d => .rejected r d

/-- The binding of bay `b`, rewritten where the bay is bound. -/
def State.modBinding (s : State) (b : Bay) (f : Binding → Binding) : State :=
  s.modBay b fun r => { r with phase := r.phase.mapBinding f }

/-- The verdict REFILLED: the evidence set is not empty (R5). -/
def Binding.isRefilled (bd : Binding) : Bool := !bd.evidence.isEmpty

/-! ### Replies (R173) -/

/-- A reply is placed at the tail of the reply queue. -/
def State.place (s : State) (r : Reply) : State := { s with replies := s.replies ++ [r] }

/-- The reply to a request that ends at its take. -/
def State.reply (s : State) (r : Request) (res : Result) (body : List Byte) : State :=
  s.place { ticket := r.ticket, kind := r.kind, result := res, body := body }

/-- The reply of a long request at its completion: none when a link reset removed its reservation (R174). -/
def State.placeLong (s : State) (reserved : Bool) (ticket : Byte) (k : ReqKind) (res : Result) (body : List Byte) :
    State :=
  if reserved then s.place { ticket := ticket, kind := k.code, result := res, body := body } else s

/-- The release in progress in a bay, if one is (R97). -/
def BayRec.release? (r : BayRec) : Option Release :=
  match r.phase.binding? with
  | some bd => bd.commit.release
  | none => none

/-- The reservations held against the reply queue: the queued requests and the long requests taken and not yet answered
(R171). -/
def State.reservations (s : State) : Nat :=
  s.requests.length + (allBays.filter fun b => ((s.bay b).release?.map (·.reserved)).getD false).length +
    (s.waiters.filter (·.reserved)).length + (match s.run with | some r => (if r.reserved then 1 else 0) | none => 0)

/-! ### Latches (R157) -/

/-- The latch of a site and kind. -/
def State.latchOf (s : State) (site : Site) (k : Fin 13) : Option Level := s.latches[site][k]

/-- The latch of a site and kind, written. -/
def State.setLatch (s : State) (site : Site) (k : Fin 13) (v : Option Level) : State :=
  { s with latches := put s.latches site (put s.latches[site] k v) }

/-- A pair is latched at a level: an event whose latch is set already coalesces with it (R157). -/
def State.latchPair (s : State) (site : Site) (k : Fin 13) (lv : Level) : State :=
  match s.latchOf site k with
  | some _ => s
  | none => s.setLatch site k (some lv)

/-- A block latches a kind at a site, at the level the routing gives it (R157, R158). -/
def State.latch (s : State) (site : Site) (k : Kind) : State := s.latchPair site k.code s.settings.routing[k.code]

/-! ### Cold start (R185) -/

/-- A cold start: every piece of volatile state takes the value its rule gives, and the load of the sections begins.
What stays is the internal store (R184), the master keys (R42), the inputs, the time base and the position of the random
source; a section write in progress is cut off and leaves the stored copy as it was. An outbound frame that a cold start
cuts is dropped, and its item is not delivered (log 41). -/
def coldStart (s : State) : State :=
  { State.reset with
    pending := s.pending, now := s.now, nonceDraws := s.nonceDraws, store := s.store, oneWay := s.oneWay,
    pfail := s.pfail, masterKeys := s.masterKeys, raw := s.raw }

end Sys2Proof.Machine
end

