-- ==== Sys2Proof/Machine/Flags.lean ====
section
/-! DEFINITION. The conditions the notice controller and the link unit form from the state (chapter 9): which levels are
offerable, the records, the attention and wake lines, and the output of a permit line. -/

namespace Sys2Proof.Machine

/-- All sites, in order. -/
def allSites : List Site := [0, 1, 2, 3, 4, 5, 6, 7, 8, 9, 10, 11, 12, 13, 14, 15]

/-- All kind codes, in order. -/
def allKinds : List (Fin 13) := [0, 1, 2, 3, 4, 5, 6, 7, 8, 9, 10, 11, 12]

/-- The latches set with a level, in ascending order of site and then of kind (R161). -/
def State.latchedPairs (s : State) (lv : Level) : List NoticePair :=
  allSites.flatMap fun site => (allKinds.filter fun k => s.latchOf site k == some lv).map fun k => { site, kind := k }

/-- Whether a level is in service (R160). -/
def State.inService (s : State) (lv : Level) : Bool := s.service[lv].isSome

/-- Whether a level is offerable (R160). -/
def State.offerable (s : State) (lv : Level) : Bool :=
  !(s.latchedPairs lv).isEmpty && !s.settings.levelMask.getLsbD lv.val && !s.inService lv &&
    allLevels.all fun m => !(decide (m < lv) && s.inService m)

/-- The record the notice controller gives at a build: the most urgent offerable level with the first 57 of its pairs
(R161). -/
def State.noticeRecord (s : State) : Option Item :=
  (allLevels.find? s.offerable).map fun lv => .notice lv ((s.latchedPairs lv).take 57)

/-- The attention line (R164). -/
def State.attention (s : State) : Bool :=
  s.device != .starting && (!s.replies.isEmpty || allLevels.any s.offerable)

/-- The wake line (R165). -/
def State.wake (s : State) : Bool :=
  s.dozing && allLevels.any fun lv => s.settings.wakeMask.getLsbD lv.val && !(s.latchedPairs lv).isEmpty

/-- The output of a permit line: whether it gives the allow level (R128). -/
def Line.allows : Line → Bool
  | .inhibit => false
  | .allow => true
  | .armed _ => true

/-- BAY_DISABLE's clearing of a site: every latch at the site, and the site's pairs of every service copy (R166). -/
def State.clearSite (s : State) (site : Site) : State :=
  { s with
    latches := put s.latches site (Vector.replicate 13 none)
    service := s.service.map fun c => c.map fun pairs => pairs.filter fun p => p.site != site }

/-- The delivery of a notice record (R162). -/
def State.deliverNotice (s : State) (lv : Level) (pairs : List NoticePair) : State :=
  let cleared := pairs.foldl (fun t p => t.setLatch p.site p.kind none) s
  { cleared with service := put cleared.service lv (some pairs) }

/-- The return of one level in service to offerable at a link reset (R167). -/
def State.restoreLevel (s : State) (lv : Level) : State :=
  match s.service[lv] with
  | none => s
  | some pairs =>
    let relatched := pairs.foldl (fun t p => t.latchPair p.site p.kind lv) s
    { relatched with service := put relatched.service lv none }

/-- The return of every level in service to offerable, the most urgent first (R167, log 19). -/
def State.restoreService (s : State) : State := allLevels.foldl State.restoreLevel s

end Sys2Proof.Machine
end

