-- ==== Sys2Proof/Machine/Meter.lean ====
section
/-! DEFINITION. The metering arithmetic of chapter 5: contributions, the carry and its ceiling, credits, remaining ink and
overdraw. Every figure is an exact whole number. -/

namespace Sys2Proof.Machine

/-- 1 tu in fL (R3). -/
def tuInFl : Nat := 10 ^ 10

/-- The greatest tag counter, 24 bits (R3). -/
def maxTu : Nat := 16777215

/-- Closed figures opened anew: all 0 (R53, R77). -/
def DrawFigures.zero : DrawFigures := { remainder := 0, drawn := 0, swath := 0, lastSwath := 0 }

/-- A tally entry's contribution in fL and the new remainder, from count, drop volume, scale and old remainder (R81). -/
def contribution (count vol scale remainder : Nat) : Nat × Nat :=
  let total := count * vol * scale + remainder
  (total / 1024, total % 1024)

/-- A purge's contribution in fL: the duration clamped to 1..60,000 ms times the purge rate (R83). -/
def purgeContribution (ms rate : Nat) : Nat := clamp 1 60000 ms * rate * 10 ^ 6

/-- Drawn and swath grow by a contribution (R81, R83). -/
def DrawFigures.grow (d : DrawFigures) (c : Nat) : DrawFigures :=
  { d with drawn := d.drawn + c, swath := d.swath + c }

/-- The capture of a swath end (R92). -/
def DrawFigures.capture (d : DrawFigures) : DrawFigures := { d with lastSwath := d.swath, swath := 0 }

/-- The room left below the greatest counter (R85). -/
def Account.headroom (a : Account) : Nat := maxTu - a.committed - a.pending

/-- A contribution enters the fine accumulator and whole tu are carried into pending; a carry beyond the headroom sets
the ceiling flag, under which nothing more is added (R84, R85). -/
def Account.charge (a : Account) (c : Nat) : Account :=
  if a.ceiling then a
  else
    let fine := a.fine + c
    let q := fine / tuInFl
    if q ≤ a.headroom then { a with pending := a.pending + q, fine := fine % tuInFl }
    else { a with pending := maxTu - a.committed, fine := 0, ceiling := true }

/-- Pending ink that no commit has launched (R75). -/
def Account.free (a : Account) : Nat := a.pending - a.inflight

/-- A credit of `x` fL: the account after it, and the part applied (R88). From fine first, then from borrowed tu:
ceil(remaining credit / 10^10) of them when free pending allows, and otherwise all of it. The rest is discarded. -/
def Account.credit (a : Account) (x : Nat) : Account × Nat :=
  let fromFine := min x a.fine
  let remaining := x - fromFine
  let borrowed := min ((remaining + (tuInFl - 1)) / tuInFl) a.free
  let fine := a.fine - fromFine + borrowed * tuInFl
  let fromBorrowed := min remaining (borrowed * tuInFl)
  ({ a with
      fine := fine - fromBorrowed, pending := a.pending - borrowed,
      credited := a.credited + (fromFine + fromBorrowed) },
    fromFine + fromBorrowed)

/-- The cut of pending at a committed figure that has risen too far (R86). -/
def Account.cut (a : Account) : Account :=
  if maxTu < a.committed + a.pending then
    { a with pending := max a.inflight (maxTu - a.committed), fine := 0, ceiling := true }
  else a

/-- The completion of a commit whose tag counter is `c`, with the cut that may follow (R106, R86). -/
def Account.complete (a : Account) (c : Nat) : Account :=
  Account.cut
    { a with committed := c, charged := a.charged + a.inflight, pending := a.pending - a.inflight, inflight := 0 }

/-- The fine fraction is written off at entry into RELEASED (R77). -/
def Account.release (a : Account) : Account := { a with credited := a.credited + a.fine, fine := 0 }

/-- Used ink: committed + pending (R90). -/
def Binding.used (bd : Binding) : Nat := bd.acct.committed + bd.acct.pending

/-- Remaining ink (R90). -/
def Binding.remaining (bd : Binding) : Nat := bd.capacity - bd.used

/-- Overdraw (R90). -/
def Binding.overdraw (bd : Binding) : Nat := bd.used - bd.capacity

/-- A contribution taken by an ACTIVE bay's binding (R81, R83, R84). -/
def Binding.charge (bd : Binding) (c : Nat) : Binding := { bd with draw := bd.draw.grow c, acct := bd.acct.charge c }

end Sys2Proof.Machine
end

