-- ==== Sys2Proof/Machine/Permit.lean ====
section
/-! DEFINITION. The level and permit unit: ink state, permit target and permit lines (chapter 7). -/

namespace Sys2Proof.Machine

/-- The hold limit of an armed line, in ms (R132). -/
def holdLimit : Nat := 2000

/-- The ink state of a remaining amount against a threshold pair (R123). -/
def inkOf (t : Thresholds) (capacity remaining : Nat) : InkState :=
  if remaining * 1000 ≤ t.out * capacity then .out
  else if remaining * 1000 ≤ t.low * capacity then .low
  else .normal

/-- The more restrictive of two targets: INHIBIT, then AT_SWATH, then ALLOW (R127). -/
def PermitMode.strictest (a b : PermitMode) : PermitMode := if a.code < b.code then b else a

/-- The permit target of a bay while the device is RUNNING (R127). -/
def Phase.target (p : Policy) : Phase → PermitMode
  | .rejected _ _ => match p.rejectMode with
    | .inhibit => .inhibit
    | .allow => .allow
  | .active bd =>
    (if bd.isRefilled then p.refillMode else .allow).strictest (if bd.ink == .out then p.outMode else .allow)
  | .off => .inhibit
  | .vacant => .inhibit
  | .seated => .inhibit
  | .identifying => .inhibit
  | .released _ => .inhibit

/-- The permit target of a bay (R127). -/
def State.target (s : State) (b : Bay) : PermitMode :=
  if s.device == .running then (s.bay b).phase.target s.policy else .inhibit

/-- An evaluation's action on a line (R129). -/
def Line.evaluate : PermitMode → Line → Line
  | .inhibit, _ => .inhibit
  | .allow, _ => .allow
  | .atSwath, .inhibit => .inhibit
  | .atSwath, .allow => .armed 0
  | .atSwath, .armed t => .armed t

/-- The permit line of a bay is evaluated (R129, R130). -/
def State.evalLine (s : State) (b : Bay) : State :=
  s.modBay b fun r => { r with line := r.line.evaluate (s.target b) }

/-- Every permit line is evaluated (R126, R134). -/
def State.evalLines (s : State) : State := s.mapBays fun b r => { r with line := r.line.evaluate (s.target b) }

/-- A bay changes its state, and its line is evaluated (R21, R130). -/
def State.setPhase (s : State) (b : Bay) (p : Phase) : State := (s.modBay b fun r => { r with phase := p }).evalLine b

/-- A line after step 1 of a swath end: an armed one inhibits (R131). -/
def Line.atSwathEnd : Line → Line
  | .armed _ => .inhibit
  | .inhibit => .inhibit
  | .allow => .allow

/-- A line at the expiry of its hold-limit timer (R132). -/
def Line.expire : Line → Line
  | .armed t => if holdLimit ≤ t then .inhibit else .armed t
  | .inhibit => .inhibit
  | .allow => .allow

/-- The latches of a change of ink state (R125). -/
def State.latchInk (s : State) (b : Bay) (before after : InkState) : State :=
  match before, after with
  | .normal, .low => s.latch (baySite b) .inkLow
  | .normal, .out => s.latch (baySite b) .inkOut
  | .low, .out => s.latch (baySite b) .inkOut
  | .normal, .normal => s
  | .low, .normal => s
  | .low, .low => s
  | .out, .normal => s
  | .out, .low => s
  | .out, .out => s

/-- The ink state takes a new value; a less severe one than the level seen lowers the level seen too (R101, R124). -/
def Binding.setInk (bd : Binding) (ink : InkState) : Binding :=
  { bd with
    ink := ink
    commit := { bd.commit with levelSeen := if ink.code < bd.commit.levelSeen.code then ink else bd.commit.levelSeen } }

/-- The ink state of an ACTIVE bay is computed: it is set, INK_LOW or INK_OUT is latched where R125 requires, and the
permit line is evaluated (R124). -/
def State.computeInk (s : State) (b : Bay) : State :=
  match (s.bay b).phase.active? with
  | none => s
  | some bd =>
    let ink := inkOf (s.bay b).thresholds bd.capacity bd.remaining
    ((s.modBinding b fun bd => bd.setInk ink).latchInk b bd.ink ink).evalLine b

end Sys2Proof.Machine
end

