-- ==== Sys2Proof/Machine/Writer.lean ====
section
/-! DEFINITION. The store writer: dirty marks, triggers, walks and their ends (R186, R187, R188, R189). -/

namespace Sys2Proof.Machine

/-- A set of sections with one member put in or taken out. -/
def Sections.set (d : Sections) (sec : StoreSection) (v : Bool) : Sections :=
  match sec with
  | .table => { d with table := v }
  | .policy => { d with policy := v }
  | .settings => { d with settings := v }

/-- Whether a set of sections has no member. -/
def Sections.isEmpty (d : Sections) : Bool := !d.table && !d.policy && !d.settings

/-- A section is marked dirty. -/
def State.markDirty (s : State) (sec : StoreSection) : State :=
  { s with writer := { s.writer with dirty := s.writer.dirty.set sec true } }

/-- The section a walk picks: the first dirty one that has not failed, in the order TABLE, POLICY, SETTINGS (R186). -/
def Writer.pick (w : Writer) : Option StoreSection :=
  if w.dirty.table && !w.failed.table then some .table
  else if w.dirty.policy && !w.failed.policy then some .policy
  else if w.dirty.settings && !w.failed.settings then some .settings
  else none

/-- The working copy of a section as it stands (R73, R186). -/
def State.copyOf (s : State) : StoreSection → SectionCopy
  | .table => .table s.table
  | .policy => .policy s.policy
  | .settings => .settings s.settings

/-- A write begins: it takes the working copy, and the section ceases to be dirty (R73, R186). -/
def State.beginWrite (s : State) (sec : StoreSection) : State :=
  { s with writer := { s.writer with writing := some (s.copyOf sec), dirty := s.writer.dirty.set sec false } }

/-- The reply of a request that waited for the end of a walk: a STORE_SAVE by the whole dirty set (R187), a RESTART by
TABLE (R189). -/
def State.answerWaiter (s : State) (w : SaveWaiter) : State :=
  if w.isRestart then
    s.placeLong w.reserved w.ticket .restart (if s.writer.dirty.table then .partially else .ok) []
  else s.placeLong w.reserved w.ticket .storeSave (if s.writer.dirty.isEmpty then .ok else .partially) []

/-- Whether a walk that ends now ends the save: TABLE is not dirty, and the save state is SAVING (R188) or a RESTART
waits for the walk (R189, log 17). -/
def State.savesNow (s : State) : Bool :=
  !s.writer.dirty.table && (s.save == .saving || s.waiters.any (·.isRestart))

/-- The end of a walk: the writer is IDLE, the save state moves to SAVED when TABLE is clean, and the waiting requests
are answered in the order of their takes. A RESTART whose reservation is gone has no reply to wait for, and its cold start
begins here (log 16). -/
def State.walkEnd (s : State) : State :=
  let idle := { s with writer := { s.writer with writing := none, failed := Sections.empty } }
  let saved := if s.savesNow then { idle.latch deviceSite .saved with save := .saved } else idle
  let answered := { s.waiters.foldl State.answerWaiter saved with waiters := [] }
  if s.waiters.any fun w => w.isRestart && !w.reserved then coldStart answered else answered

/-- A walk picks its next section, or ends (R186). -/
def State.walkNext (s : State) : State :=
  match s.writer.pick with
  | some sec => s.beginWrite sec
  | none => s.walkEnd

/-- A trigger: it empties the failed set, and starts a walk when the writer is IDLE (R186). A FAULTED device's writer
takes no trigger (R185). -/
def State.trigger (s : State) : State :=
  if s.device == .faulted then s
  else
    let cleared := { s with writer := { s.writer with failed := Sections.empty } }
    match s.writer.writing with
    | some _ => cleared
    | none => cleared.walkNext

/-- The stored copy of a section is replaced (R186). -/
def Store.write (st : Store) : SectionCopy → Store
  | .table t => { st with table := some t }
  | .policy p => { st with policy := some p }
  | .settings c => { st with settings := some c }

/-- The section a copy belongs to. -/
def SectionCopy.whose : SectionCopy → StoreSection
  | .table _ => .table
  | .policy _ => .policy
  | .settings _ => .settings

/-- A section write completes, and the walk picks its next section (R186). -/
def State.writeComplete (s : State) (success : Bool) : State :=
  match s.writer.writing with
  | none => s
  | some c =>
    let done := { s with writer := { s.writer with writing := none } }
    if success then State.walkNext { done with store := done.store.write c }
    else
      let sec := c.whose
      let w := { done.writer with dirty := done.writer.dirty.set sec true, failed := done.writer.failed.set sec true }
      State.walkNext ({ done with writer := w }.latch deviceSite .storeFault)

/-! ### The working table (R72) -/

/-- The table takes a new content; one that leaves every field as it was marks nothing dirty (R72). -/
def State.setTable (s : State) (t : List Entry) : State :=
  if t = s.table then s else { s with table := t }.markDirty .table

/-- As `setTable`, for the changes that also start a flush (R72). -/
def State.flushTable (s : State) (t : List Entry) : State :=
  if t = s.table then s else ({ s with table := t }.markDirty .table).trigger

end Sys2Proof.Machine
end

