-- ==== Sys2Proof/Machine/Survey.lean ====
section
/-! DEFINITION. SURVEY_RUN's record and passes (R152 to R154), and what a bay's channel loses when the bay leaves ACTIVE
(R139, R140, R149). -/

namespace Sys2Proof.Machine

/-- A calibration is valid when its two raw figures differ (R142). -/
def Calib.valid (c : Calib) : Bool := c.empty != c.full

/-- An ACTIVE bay with a valid calibration (R139, R153). -/
def State.surveyable (s : State) (b : Bay) : Bool := s.isActive b && (s.bayCfg b).calib.valid

/-- A set of bays as a number: bit n for bay n (R179). -/
def BaySet.toNat (v : BaySet) : Nat := allBays.foldl (fun acc b => acc + if v[b] then 2 ^ b.val else 0) 0

/-- The set of bays a 16-position field names; the positions for 12..15 are ignored (R152). -/
def baySetOf (n : Nat) : BaySet := Vector.ofFn fun b => n.testBit b.val

/-- Whether the current pass still has a member. -/
def SurveyRun.hasMembers (r : SurveyRun) : Bool := allBays.any fun b => r.members[b].isSome

/-- The body of a SURVEY_RUN reply (R154, R179). -/
def SurveyRun.body (r : SurveyRun) : List Byte :=
  toBytes 1 r.passesRun ++ toBytes 2 (BaySet.toNat r.skipped) ++
    allBays.flatMap fun b => wordOrAbsent (r.results[b].map (·.1)) ++ wordOrAbsent (r.results[b].map (·.2))

/-- The run ends: its reply is placed and the record removed (R154, R174). -/
def State.endRun (s : State) : State :=
  match s.run with
  | none => s
  | some r => { s with run := none }.placeLong r.reserved r.ticket .surveyRun .ok r.body

/-- A pass starts: each listed bay that is ACTIVE with a valid calibration becomes a member and is wanted; the other
listed bays join the skipped set (R153). -/
def State.startPass (s : State) (r : SurveyRun) : State :=
  { (s.mapBays fun b rec => { rec with wanted := rec.wanted || (r.listed[b] && s.surveyable b) }) with
    run := some
      { r with
        passesLeft := r.passesLeft - 1, passesRun := r.passesRun + 1
        members := Vector.ofFn fun b => if r.listed[b] && s.surveyable b then some false else none
        skipped := Vector.ofFn fun b => r.skipped[b] || (r.listed[b] && !s.surveyable b) } }

/-- The next pass starts, and those after it for as long as a pass has no member; with no pass left the run ends
(R153, R154). -/
def State.startPasses : Nat → State → State
  | 0, s => s.endRun
  | n + 1, s =>
    match s.run with
    | none => s
    | some r =>
      let started := s.startPass r
      match started.run with
      | none => started
      | some r' => if r'.hasMembers then started else State.startPasses n started

/-- When the last member of the current pass has ended, the pass ends (R153). -/
def State.passCheck (s : State) : State :=
  match s.run with
  | none => s
  | some r => if r.hasMembers then s else State.startPasses r.passesLeft s

/-- A member whose conversion has not been taken ends and joins the skipped set (R153). -/
def SurveyRun.skipMember (r : SurveyRun) (b : Bay) : SurveyRun :=
  if r.members[b] = some false then { r with members := put r.members b none, skipped := put r.skipped b true } else r

/-- A listed bay that leaves ACTIVE by filtered removal is dropped from the run (R154). -/
def SurveyRun.drop (r : SurveyRun) (b : Bay) : SurveyRun :=
  if r.listed[b] then { r with listed := put r.listed b false, skipped := put r.skipped b true } else r

/-- The discard flag of a running conversion of the bay's channel is set (R149, R143). -/
def State.discardConversion (s : State) (b : Bay) : State :=
  match s.converter with
  | none => s
  | some c => if c.channel = bayChannel b then { s with converter := some { c with discard := true } } else s

/-- What follows at the channel and the run when a bay has left ACTIVE: wanted flag, survey timer and due time go, a
running conversion is discarded, and the bay's membership ends; `removed` tells a filtered removal (R139, R140, R149,
R153, R154). -/
def State.leftActive (s : State) (b : Bay) (removed : Bool) : State :=
  let cleared :=
    (s.modBay b fun r => { r with wanted := false, surveyTimer := none, due := none }).discardConversion b
  match cleared.run with
  | none => cleared
  | some r =>
    State.passCheck { cleared with run := some (SurveyRun.skipMember (if removed then r.drop b else r) b) }

end Sys2Proof.Machine
end

