-- ==== Sys2Proof/Machine/Commit.lean ====
section
/-! DEFINITION. The commit mechanism and the entries it keeps in step: shadow writes (R69), triggers (R100 to R102),
launch and outcomes (R104 to R110), releases (R114 to R116), evidence (R148), and unbinding (R58, R59). -/

namespace Sys2Proof.Machine

/-! ### The bound bay's table entry -/

/-- The entry that names a bay (R62). -/
def State.entryOf (s : State) (b : Bay) : Option Entry := s.table.find? fun e => e.bay == some b

/-- The table with the entry that names a bay rewritten. -/
def State.withEntry (s : State) (b : Bay) (f : Entry → Entry) : List Entry :=
  s.table.map fun e => if e.bay = some b then f e else e

/-- The target of a commit state, where one is present (R97). -/
def CommitState.target? : CommitState → Option Nat
  | .inFlight t _ => some t
  | .reconciling t _ => some t
  | .uncertain t => some t
  | .idle => none
  | .queued => none
  | .stopped => none

/-- A binding's unwritten use in its entry: owed ink, and the unsure target of a flight not yet resolved (R58, R69). -/
def Binding.shadow (bd : Binding) (e : Entry) : Entry :=
  { e with
    owed := bd.acct.pending
    unsure := bd.commit.state.target?.map fun t => { target := t, amount := bd.acct.inflight } }

/-- The table with a bound bay's shadow values. -/
def State.shadowTable (s : State) (b : Bay) : List Entry :=
  match (s.bay b).phase.binding? with
  | none => s.table
  | some bd => s.withEntry b bd.shadow

/-- The shadow write of every bound bay, with no flush of its own (R188, R189). -/
def State.shadowAll (s : State) : State := allBays.foldl (fun t b => t.setTable (t.shadowTable b)) s

/-- While the save state is SAVING or SAVED, a bay's shadow write, which starts a flush (R69, R72, R119). -/
def State.shadowIfSaving (s : State) (b : Bay) : State :=
  if s.save == .none then s else s.flushTable (s.shadowTable b)

/-- A change of a bay's commit record and figures, handed on (R119). -/
def State.changeCommit (s : State) (b : Bay) (f : Binding → Binding) : State := (s.modBinding b f).shadowIfSaving b

/-- The binding with another commit state. -/
def Binding.setCommit (bd : Binding) (c : CommitState) : Binding := { bd with commit := { bd.commit with state := c } }

/-- The entry's high counter rises to an authenticated counter above it, without a flush (R56, R57, R66). -/
def State.raiseHigh (s : State) (b : Bay) (c : Nat) : State :=
  s.setTable (s.withEntry b fun e => { e with high := max e.high c })

/-! ### Evidence (R148) -/

/-- The entry takes the REFILLED mark; a mark already present stays (R54, R67). -/
def Entry.markRefilled (k : EvidenceKind) (e : Entry) : Entry := { e with refilled := e.refilled.or (some k) }

/-- Evidence is added to the set of a bound bay; the first makes the verdict REFILLED, marks the entry, latches REFILL
and re-evaluates the permit line (R148). -/
def State.addEvidence (s : State) (b : Bay) (k : EvidenceKind) : State :=
  match (s.bay b).phase.binding? with
  | none => s
  | some bd =>
    if bd.evidence.contains k then s
    else
      let joined := s.modBinding b fun bd => { bd with evidence := bd.evidence ++ [k] }
      if bd.evidence.isEmpty then
        ((joined.flushTable (joined.withEntry b (Entry.markRefilled k))).latch (baySite b) .refill).evalLine b
      else joined

/-- The counter of an authentic CHALLENGE of a bound bay against the entry's high counter (R56). -/
def State.checkCounter (s : State) (b : Bay) (c : Nat) : State :=
  match s.entryOf b with
  | none => s
  | some e => if c < e.high then s.addEvidence b .rollback else s.raiseHigh b c

/-! ### Triggers (R100 to R102) -/

/-- Whether a trigger fires: the step trigger at `threshold`, or the level trigger (R100, R101). -/
def Binding.fires (bd : Binding) (threshold : Nat) : Bool :=
  threshold ≤ bd.acct.free || (bd.commit.levelSeen.code < bd.ink.code && 1 ≤ bd.acct.free)

/-- The triggers of an ACTIVE bay are evaluated, in commit state IDLE with no release in progress: one that fires places
COMMIT and makes the state QUEUED (R100, R101). -/
def State.evalTriggers (s : State) (b : Bay) (threshold : Nat) : State :=
  match (s.bay b).phase.active? with
  | none => s
  | some bd =>
    if bd.commit.state == .idle && bd.commit.release.isNone && bd.fires threshold then
      (s.modBay b fun r => { r with slot := some .commit }).changeCommit b fun bd =>
        { bd with commit := { bd.commit with state := .queued, levelSeen := bd.ink } }
    else s

/-- The triggers of a bay at its commit step (R100). -/
def State.evalStep (s : State) (b : Bay) : State := s.evalTriggers b (s.bayCfg b).commitStep

/-- The triggers of every bay with the 1 tu threshold of STORE_SAVE and RESTART (R102). -/
def State.evalForSave (s : State) : State := allBays.foldl (fun t b => t.evalTriggers b 1) s

/-- New figures of an ACTIVE bay are handed on: first the ink state, then the triggers (R94). -/
def State.handOn (s : State) (b : Bay) : State := (s.computeInk b).evalStep b

/-! ### Releases (R114 to R116) -/

/-- The binding as a bay keeps it in RELEASED: the ink state is computed with the pair then active, and lowers the level
seen where it is less severe (R77, R101, R116, R124). -/
def Binding.toReleased (bd : Binding) (t : Thresholds) : Binding :=
  let judged := bd.setInk (inkOf t bd.capacity bd.remaining)
  { judged with
    acct := bd.acct.release, draw := { bd.draw with remainder := 0 }
    commit := { judged.commit with release := none } }

/-- A release completes: the bay becomes RELEASED with the commit state its path left, a staged pair becomes active, and
the reply is placed (R115, R116, R122). A SURVEY_RUN that the bay's leaving ACTIVE ends is answered before it (log 36). -/
def State.completeRelease (s : State) (b : Bay) (rel : Release) (res : Result) : State :=
  match (s.bay b).phase.active? with
  | none => s
  | some bd =>
    let t := (s.bay b).staged.getD (s.bay b).thresholds
    let moved := s.modBay b fun r =>
      { r with phase := .released (bd.toReleased t), slot := none, thresholds := t, staged := none }
    ((moved.evalLine b).leftActive b false).placeLong rel.reserved rel.ticket .bayRelease res []

/-- FINAL is placed for a release in progress (R114, R115). -/
def State.placeFinal (s : State) (b : Bay) : State :=
  (s.modBay b fun r => { r with slot := some .final }).changeCommit b fun bd => bd.setCommit .queued

/-- A commit or reconcile has ended in IDLE: a release in progress completes when nothing is left to write or its FINAL
has taken, and otherwise places FINAL; with no release the triggers are evaluated (R106, R110, R115). -/
def State.afterIdle (s : State) (b : Bay) (finalTook : Bool) : State :=
  match (s.bay b).phase.active? with
  | none => s
  | some bd =>
    match bd.commit.release with
    | some rel => if finalTook || bd.acct.pending == 0 then s.completeRelease b rel .ok else s.placeFinal b
    | none => s.evalStep b

/-- A commit path has ended in UNCERTAIN or STOPPED: a release in progress completes with COMMIT_UNCERTAIN (R115). -/
def State.afterHalt (s : State) (b : Bay) : State :=
  match (s.bay b).phase.active? with
  | none => s
  | some bd =>
    match bd.commit.release with
    | some rel => s.completeRelease b rel .commitUncertain
    | none => s

/-! ### Launch and outcomes (R104 to R110) -/

/-- The launch of a COMMIT or FINAL (R104). -/
def State.launch (s : State) (b : Bay) (asFinal : Bool) : State :=
  s.changeCommit b fun bd =>
    { bd with
      acct := { bd.acct with inflight := bd.acct.pending }
      commit := { bd.commit with state := .inFlight (bd.acct.committed + bd.acct.pending) asFinal } }

/-- A commit completes at a tag counter `c` at or above the target (R106). -/
def State.commitComplete (s : State) (b : Bay) (c : Nat) (asFinal : Bool) : State :=
  let settled := s.changeCommit b fun bd => { bd.setCommit .idle with acct := bd.acct.complete c }
  (settled.computeInk b).afterIdle b asFinal

/-- A flight has ended without completion: its ink is free again (R107, R108, R110). -/
def Binding.endFlight (bd : Binding) (c : CommitState) : Binding :=
  { bd.setCommit c with acct := { bd.acct with inflight := 0 } }

/-- The tag refused or undid a write: evidence, STOPPED, COMMIT_FAULT (R107, R108). -/
def State.stopCommits (s : State) (b : Bay) (k : EvidenceKind) : State :=
  let ended := (s.addEvidence b k).changeCommit b fun bd => bd.endFlight .stopped
  ((ended.latch (baySite b) .commitFault).computeInk b).afterHalt b

/-- The outcome of a flight stays unknown: UNCERTAIN, COMMIT_FAULT (R105, R110). -/
def State.flightUnknown (s : State) (b : Bay) : State :=
  match (s.bay b).phase.active? with
  | none => s
  | some bd =>
    match bd.commit.state.target? with
    | none => s
    | some t =>
      ((s.changeCommit b fun bd => bd.setCommit (.uncertain t)).latch (baySite b) .commitFault).afterHalt b

/-- A lost advance: RECONCILING, with RECONCILE in the slot (R109). -/
def State.lostAdvance (s : State) (b : Bay) : State :=
  match (s.bay b).phase.active? with
  | none => s
  | some bd =>
    match bd.commit.state with
    | .inFlight t asFinal =>
      (s.modBay b fun r => { r with slot := some .reconcile }).changeCommit b fun bd =>
        bd.setCommit (.reconciling t asFinal)
    | .idle => s
    | .queued => s
    | .reconciling _ _ => s
    | .stopped => s
    | .uncertain _ => s

/-- An authentic ADVANCE reply with counter `c`: the high counter rises, and `c` is judged against the target and the
committed figure (R57, R106, R107, R108). -/
def State.advanceCounter (s : State) (b : Bay) (c : Nat) : State :=
  match (s.bay b).phase.active? with
  | none => s
  | some bd =>
    match bd.commit.state with
    | .inFlight t asFinal =>
      let raised := s.raiseHigh b c
      if t ≤ c then raised.commitComplete b c asFinal
      else if bd.acct.committed ≤ c then raised.stopCommits b .advanceRefused
      else raised.stopCommits b .rollback
    | .idle => s
    | .queued => s
    | .reconciling _ _ => s
    | .stopped => s
    | .uncertain _ => s

/-- An authentic RECONCILE counter: the lost advance took, or it did not (R56, R110). -/
def State.reconcileCounter (s : State) (b : Bay) (c : Nat) : State :=
  match (s.bay b).phase.active? with
  | none => s
  | some bd =>
    match bd.commit.state with
    | .reconciling t asFinal =>
      let checked := s.checkCounter b c
      if t ≤ c then checked.commitComplete b c asFinal
      else ((checked.changeCommit b fun bd => bd.endFlight .idle).computeInk b).afterIdle b false
    | .idle => s
    | .queued => s
    | .inFlight _ _ => s
    | .stopped => s
    | .uncertain _ => s

/-- The withdrawal of a queued COMMIT or FINAL whose pending a credit has emptied (R103). -/
def State.withdraw (s : State) (b : Bay) : State :=
  match (s.bay b).phase.active? with
  | none => s
  | some bd =>
    if bd.commit.state == .queued && bd.acct.pending == 0 then
      let idle := (s.modBay b fun r => { r with slot := none }).changeCommit b fun bd => bd.setCommit .idle
      match bd.commit.release with
      | some rel => idle.completeRelease b rel .ok
      | none => idle
    else s

/-! ### Leaving a binding or an operation -/

/-- A bay's operation is abandoned: its slot is emptied, and an operation running for it is flagged (R15, R39). -/
def State.abandon (s : State) (b : Bay) : State :=
  (s.modBay b fun r => { r with slot := none }).modLane (laneOf b) fun l =>
    { l with running := l.running.map fun r => if r.position = positionOf b then { r with abandoned := true } else r }

/-- Unbinding: owed ink and unsure target go into the entry, which then names no bay; the meter and the record close with
the state the cause gives the bay; a release in progress is answered BAY_STATE (R16, R58, R59, R118), before a SURVEY_RUN
that the leaving of ACTIVE ends (log 36). -/
def State.unbind (s : State) (b : Bay) (next : Phase) (removed : Bool) : State :=
  match (s.bay b).phase.binding? with
  | none => s
  | some bd =>
    let wasActive := s.isActive b
    let written := s.flushTable (s.withEntry b fun e => { bd.shadow e with bay := none })
    let closed := written.modBay b fun r =>
      { r with phase := next, thresholds := r.staged.getD r.thresholds, staged := none, counter := 0 }
    let answered := match bd.commit.release with
      | some rel => closed.placeLong rel.reserved rel.ticket .bayRelease .bayState []
      | none => closed
    let evaluated := answered.evalLine b
    if wasActive then evaluated.leftActive b removed else evaluated

/-- A bay that is not bound enters REJECTED with a reason (R12, R77). -/
def State.enterRejected (s : State) (b : Bay) (reason : RejectReason) : State :=
  (s.setPhase b (.rejected reason DrawFigures.zero)).latch (baySite b) .rejected

/-- The BAD_RESPONSE rejection of a bound bay (R13, R60). -/
def State.badResponse (s : State) (b : Bay) : State :=
  (s.unbind b (.rejected .badResponse DrawFigures.zero) false).latch (baySite b) .rejected

/-- The phase of a bay that leaves its state for one without a binding: by unbinding where it is bound (R14, R17,
R18). -/
def State.leavePhase (s : State) (b : Bay) (next : Phase) (removed : Bool) : State :=
  match (s.bay b).phase.binding? with
  | some _ => s.unbind b next removed
  | none => s.setPhase b next

end Sys2Proof.Machine
end

