-- ==== Sys2Proof/Machine/Auth.lean ====
section
/-! DEFINITION. The authentication unit and binding: keys, responses and proofs (R42, R43), the identify checks (R45 to
R48), the table at a binding (R51, R63, R64, R65) and the binding itself (R51 to R55). -/

namespace Sys2Proof.Machine

/-! ### Digests (R43) -/

/-- K_tag: D of a master key over the serial and 8 bytes of 0x00. -/
def tagKey (master : Key) (serial : Serial) : Key :=
  Config.digest master (toBytes 8 serial.toNat ++ List.replicate 8 0)

/-- The response over a nonce, a serial and a counter. -/
def responseOf (kTag nonce : Key) (serial : Serial) (counter : Nat) : Key :=
  Config.digest kTag (toBytes 16 nonce.toNat ++ toBytes 8 serial.toNat ++ toBytes 3 counter)

/-- The advance proof over a nonce and a target. -/
def proofOf (kTag nonce : Key) (target : Nat) : Key :=
  Config.digest kTag (toBytes 16 nonce.toNat ++ toBytes 3 target)

/-- The master key of a slot, when the slot is manufactured (R42). -/
def State.masterKey (s : State) (k : KeySlot) : Option Key := s.masterKeys[k]

/-- Whether a response is authentic: equal to the one the unit computes with the slot's key (R43). -/
def State.authentic (s : State) (k : KeySlot) (serial : Serial) (nonce : Key) (counter : Nat) (response : Key) : Bool :=
  match s.masterKey k with
  | none => false
  | some master => response == responseOf (tagKey master serial) nonce serial counter

/-! ### The identify checks (R45) -/

/-- The record-stage checks 2 and 3, less the record check: the reason a record fails, if it does (R45, R46). -/
def State.recordFault (s : State) (rec : TagRecord) : Option RejectReason :=
  match keySlotOf? rec.keyIndex with
  | none => some .recordInvalid
  | some k =>
    if rec.capacity == 0 || (s.masterKey k).isNone then some .recordInvalid
    else if !s.policy.allowed.getLsbD k.val then some .keyRevoked
    else none

/-- Whether a product code fits a slot code (R6, R47). -/
def fits (slotCode product : Code) : Bool := slotCode == 0xFFFF || slotCode == product

/-- The holder of a serial: another bay bound with it (R48). -/
def State.holder (s : State) (b : Bay) (serial : Serial) : Option Bay :=
  allBays.find? fun c => c != b && ((s.bay c).phase.binding?.map (·.serial)) == some serial

/-! ### The table at a binding (R63, R64, R65) -/

/-- The table less the entry at the highest position that names no bay (R64). -/
def evictLast : List Entry → List Entry
  | [] => []
  | e :: es => if es.any fun x => x.bay.isNone then e :: evictLast es else if e.bay.isNone then es else e :: es

/-- The entry of a new cartridge (R64). -/
def Entry.fresh (rec : TagRecord) (c0 : Nat) : Entry :=
  { serial := rec.serial, product := rec.product, capacity := rec.capacity, high := c0, owed := 0, unsure := none,
    lastSensed := none, refilled := none, cloneSeen := false, bay := none }

/-- The cartridge's entry, found or new, and the entries behind it once it stands at the front (R63, R64). -/
def frontEntry (t : List Entry) (rec : TagRecord) (c0 : Nat) : Entry × List Entry :=
  match t.find? fun e => e.serial == rec.serial with
  | some e => (e, t.eraseP fun e => e.serial == rec.serial)
  | none => (Entry.fresh rec c0, if t.length < 32 then t else evictLast t)

/-- The pending ink of a binding: the owed ink less the taken part of the unsure flight, cut to the room left (R52). -/
def settle (e : Entry) (c0 : Nat) : Nat :=
  let taken := match e.unsure with
    | some u => if u.target ≤ c0 then u.amount else 0
    | none => 0
  min (e.owed - taken) (maxTu - c0)

/-- The evidence of a binding (R54). -/
def firstEvidence (e : Entry) (c0 : Nat) : List EvidenceKind :=
  if c0 < e.high then [.rollback] else if e.refilled.isSome then [.knownRefilled] else []

/-- The entry as binding leaves it (R65). -/
def Entry.bindTo (e : Entry) (b : Bay) (rec : TagRecord) (c0 : Nat) : Entry :=
  let marked := if c0 < e.high then e.markRefilled .rollback else e
  { marked with
    bay := some b, product := rec.product, capacity := rec.capacity, owed := 0, unsure := none, high := max e.high c0 }

/-- The binding that opens (R53, R54, R147). -/
def openBinding (e : Entry) (rec : TagRecord) (k : KeySlot) (c0 : Nat) : Binding :=
  let pending := settle e c0
  { serial := rec.serial, product := rec.product, capacity := rec.capacity, keyIndex := k
    evidence := firstEvidence e c0
    acct :=
      { committed := c0, pending := pending, inflight := 0, charged := 0, carried := pending, fine := 0, credited := 0,
        ceiling := false }
    draw := DrawFigures.zero
    commit := { state := .idle, levelSeen := .normal, release := none }
    ink := .normal, reinsert := e.lastSensed.isSome }

/-- Whether a conversion of a bay's channel is running. -/
def State.converting (s : State) (b : Bay) : Bool :=
  match s.converter with
  | some c => c.channel == bayChannel b
  | none => false

/-- Binding, at the end of a successful identify (R51 to R55): the entry comes to the front and is settled, the meter
opens, the verdict forms, TABLE is flushed once with the shadow values if the save runs (R69), and the bay becomes ACTIVE
and is handed to its neighbours. -/
def State.bind (s : State) (b : Bay) (rec : TagRecord) (k : KeySlot) (c0 : Nat) : State :=
  let (e, rest) := frontEntry s.table rec c0
  let bd := openBinding e rec k c0
  let opened := s.modBay b fun r =>
    { r with
      phase := .active bd, slot := none, counter := 0, wanted := true
      surveyTimer := if s.converting b then none else some 0 }
  let entry := e.bindTo b rec c0
  let written := if s.save == .none then entry else bd.shadow entry
  let latched := ((opened.flushTable (written :: rest)).computeInk b).latch (baySite b) .bound
  let refill := if bd.isRefilled then latched.latch (baySite b) .refill else latched
  refill.evalStep b

/-- The end of an IDENTIFY whose CHALLENGE was authentic: checks 6 and 7, then the binding (R47, R48). -/
def State.identified (s : State) (b : Bay) (rec : TagRecord) (c0 : Nat) : State :=
  if !fits (s.bayCfg b).slotCode rec.product then s.enterRejected b .wrongInk
  else
    match s.holder b rec.serial with
    | some h =>
      let rejected := s.enterRejected b .duplicateSerial
      (rejected.flushTable (rejected.withEntry h fun e => { e with cloneSeen := true })).latch (baySite h) .duplicate
    | none =>
      match keySlotOf? rec.keyIndex with
      | some k => s.bind b rec k c0
      | none => s.enterRejected b .recordInvalid

end Sys2Proof.Machine
end

