-- ==== Sys2Proof/Machine/LaneEngine.lean ====
section
/-! DEFINITION. The lane engines and their arbiters (chapter 2). -/

namespace Sys2Proof.Machine

/-- The reply timeout in ms (R26). -/
def replyTimeout : Nat := 25

/-- The attempts of a READ_RECORD or CHALLENGE (R27). -/
def maxAttempts : Nat := 3

/-! ### Sending (R26, R29, R30, R183) -/

/-- A command is on the lane: the reply timer is absent until it has been sent (R26). -/
def State.onLane (s : State) (l : Lane) (r : Running) : State :=
  s.modLane l fun x => { x with running := some { r with timer := none } }

/-- READ_RECORD is sent, as attempt `n` (R28). -/
def State.sendReadRecord (s : State) (l : Lane) (r : Running) (n : Nat) : State :=
  s.onLane l { r with step := .readRecord, attempt := n, nonce := none, command := readRecordCommand r.position }

/-- CHALLENGE is sent with a freshly drawn nonce, as attempt `n` (R29, R44). -/
def State.sendChallenge (s : State) (l : Lane) (r : Running) (n : Nat) : State :=
  let nonce := Config.nonce s.nonceDraws
  { s with nonceDraws := s.nonceDraws + 1 }.onLane l
    { r with step := .challenge, attempt := n, nonce := some nonce, command := challengeCommand r.position nonce }

/-- The target and the proof of a bay's ADVANCE, over the operation nonce (R30, R43). -/
def State.advanceOf (s : State) (b : Bay) (nonce : Key) : Nat × Key :=
  match (s.bay b).phase.binding? with
  | none => (0, 0)
  | some bd =>
    let target := bd.commit.state.target?.getD 0
    (target, proofOf (tagKey ((s.masterKey bd.keyIndex).getD 0) bd.serial) nonce target)

/-- ADVANCE is sent over the nonce of the authentic CHALLENGE, which becomes the operation nonce (R29, R30). -/
def State.sendAdvance (s : State) (l : Lane) (r : Running) (nonce : Key) : State :=
  let (target, proof) := s.advanceOf (bayAt l r.position) nonce
  s.onLane l
    { r with
      step := .advance, attempt := 1, nonce := none, opNonce := some nonce
      command := advanceCommand r.position target proof }

/-! ### The arbiter (R31 to R34) -/

/-- The search order of positions after the last-served one (R32). -/
def searchOrder (last : Position) : List Position := [last + 1, last + 2, last + 3, last]

/-- The operations in class order (R31). -/
def classOrder : List OpKind := [.final, .reconcile, .commit, .identify]

/-- Whether write hold keeps an operation waiting (R31, R33). -/
def OpKind.heldBack : OpKind → Bool
  | .commit => true
  | .final => true
  | .identify => false
  | .reconcile => false

/-- Whether the bay at a position is a candidate for an operation (R31). -/
def State.candidate (s : State) (l : Lane) (op : OpKind) (p : Position) : Bool :=
  (s.bay (bayAt l p)).slot == some op && !(op.heldBack && (s.lane l).writeHold)

/-- The request the arbiter chooses: of the most urgent class, the first in the search order (R31, R32). -/
def State.chosen (s : State) (l : Lane) : Option (Position × OpKind) :=
  classOrder.findSome? fun op =>
    ((searchOrder (s.lane l).lastServed).find? (s.candidate l op)).map fun p => (p, op)

/-- The operation's owner is told that it has started (R34 step 3). -/
def State.tellOwner (s : State) (b : Bay) : OpKind → State
  | .identify => if (s.bay b).phase = .seated then s.setPhase b .identifying else s
  | .commit => s.launch b false
  | .final => s.launch b true
  | .reconcile => s

/-- The lane starts an operation (R34). -/
def State.startOp (s : State) (l : Lane) (p : Position) (op : OpKind) : State :=
  let b := bayAt l p
  let r : Running :=
    { position := p, op := op, step := if op == .identify then .readRecord else .challenge, attempt := 1
      abandoned := false, opNonce := none, timer := none, nonce := none, record := none, badRecord := false
      command := [] }
  let taken := s.modBay b fun x => { x with slot := none }
  let busy := taken.modLane l fun x => { x with running := some r, lastServed := p }
  let told := busy.tellOwner b op
  if op == .identify then told.sendReadRecord l r 1 else told.sendChallenge l r 1

/-- The arbiter of a lane runs, on an IDLE lane (R31). -/
def State.arbitrate (s : State) (l : Lane) : State :=
  match (s.lane l).running with
  | some _ => s
  | none =>
    match s.chosen l with
    | some (p, op) => s.startOp l p op
    | none => s

/-- The arbiters of all lanes run, in ascending order of lane (R31, log 37). -/
def State.arbitrateAll (s : State) : State := allLanes.foldl State.arbitrate s

/-! ### Ends of operations (R38, R39) -/

/-- The lane becomes IDLE and its arbiter runs (R38 steps 3 and 4, R39). -/
def State.freeLane (s : State) (l : Lane) : State := (s.modLane l fun x => { x with running := none }).arbitrate l

/-- The end of an operation: the lane drops its timer and nonce, the owner acts on the result, and the lane is freed
(R38). -/
def State.endOperation (s : State) (l : Lane) (owner : State → State) : State :=
  (owner (s.modLane l fun x =>
    { x with running := x.running.map fun r => { r with timer := none, opNonce := none } })).freeLane l

/-- The end of an IDENTIFY with a reject reason (R12, R35). -/
def State.failIdentify (s : State) (l : Lane) (b : Bay) (reason : RejectReason) : State :=
  s.endOperation l fun t => t.enterRejected b reason

/-! ### Judging replies (R28, R29, R30) -/

/-- A valid READ_RECORD reply (R28, R35). -/
def State.recordReply (s : State) (l : Lane) (r : Running) (bytes : List Byte) : State :=
  let b := bayAt l r.position
  if recordCheckOk bytes then
    let rec' := TagRecord.parse bytes
    match s.recordFault rec' with
    | some reason => s.failIdentify l b reason
    | none => s.sendChallenge l { r with record := some rec' } 1
  else if r.attempt < maxAttempts then s.sendReadRecord l { r with badRecord := true } (r.attempt + 1)
  else s.failIdentify l b .recordInvalid

/-- The key slot and serial a response is judged with: the record's in IDENTIFY, the binding's otherwise (R29, R43). -/
def State.identityFor (s : State) (l : Lane) (r : Running) : Option (KeySlot × Serial) :=
  match r.op with
  | .identify =>
    match r.record with
    | some rec' => (keySlotOf? rec'.keyIndex).map fun k => (k, rec'.serial)
    | none => none
  | .commit => (s.bay (bayAt l r.position)).phase.binding?.map fun bd => (bd.keyIndex, bd.serial)
  | .reconcile => (s.bay (bayAt l r.position)).phase.binding?.map fun bd => (bd.keyIndex, bd.serial)
  | .final => (s.bay (bayAt l r.position)).phase.binding?.map fun bd => (bd.keyIndex, bd.serial)

/-- Whether a reply's response is authentic over a nonce (R43). -/
def State.replyAuthentic (s : State) (l : Lane) (r : Running) (nonce : Option Key) (bytes : List Byte) : Bool :=
  match s.identityFor l r, nonce with
  | some (k, serial), some n => s.authentic k serial n (replyCounter bytes) (replyResponse bytes)
  | some _, none => false
  | none, _ => false

/-- A CHALLENGE ends with COUNTER `c` (R29, R35, R36, R37). -/
def State.challengeCounter (s : State) (l : Lane) (r : Running) (c : Nat) : State :=
  let b := bayAt l r.position
  match r.op with
  | .identify =>
    match r.record with
    | some rec' => s.endOperation l fun t => t.identified b rec' c
    | none => s
  | .commit => (s.checkCounter b c).sendAdvance l r (r.nonce.getD 0)
  | .final => (s.checkCounter b c).sendAdvance l r (r.nonce.getD 0)
  | .reconcile => s.endOperation l fun t => t.reconcileCounter b c

/-- A CHALLENGE ends with MISMATCH (R35, R36, R37). -/
def State.challengeMismatch (s : State) (l : Lane) (r : Running) : State :=
  let b := bayAt l r.position
  match r.op with
  | .identify => s.failIdentify l b .badResponse
  | .commit => s.endOperation l fun t => t.badResponse b
  | .final => s.endOperation l fun t => t.badResponse b
  | .reconcile => s.endOperation l fun t => t.badResponse b

/-- A CHALLENGE ends with NONE (R35, R36, R37). -/
def State.challengeNone (s : State) (l : Lane) (r : Running) : State :=
  let b := bayAt l r.position
  match r.op with
  | .identify => s.failIdentify l b .noReply
  | .commit => s.endOperation l fun t => t.flightUnknown b
  | .final => s.endOperation l fun t => t.flightUnknown b
  | .reconcile => s.endOperation l fun t => t.flightUnknown b

/-- A valid reply is judged by the transaction on the lane (R26, R28, R29, R30). -/
def State.judgeReply (s : State) (l : Lane) (r : Running) (bytes : List Byte) : State :=
  let b := bayAt l r.position
  match r.step with
  | .readRecord => s.recordReply l r bytes
  | .challenge =>
    if s.replyAuthentic l r r.nonce bytes then s.challengeCounter l r (replyCounter bytes)
    else s.challengeMismatch l r
  | .advance =>
    if s.replyAuthentic l r r.opNonce bytes then
      s.endOperation l fun t => t.advanceCounter b (replyCounter bytes)
    else s.endOperation l fun t => t.lostAdvance b

/-- A reply completes on a lane: ignored with no reply timer (R23), discarded when its length, position or frame check is
wrong, and otherwise taken (R26); in an abandoned operation its contents go to no owner (R39). -/
def State.tagReply (s : State) (l : Lane) (bytes : List Byte) : State :=
  match (s.lane l).running with
  | none => s
  | some r =>
    match r.timer with
    | none => s
    | some _ =>
      if replyFrameOk r.step r.position bytes then
        if r.abandoned then s.freeLane l else s.judgeReply l { r with timer := none } bytes
      else s

/-- An attempt ends with no reply: the next attempt, or the transaction's result (R27, R28, R29, R30). -/
def State.noReply (s : State) (l : Lane) (r : Running) : State :=
  let b := bayAt l r.position
  match r.step with
  | .readRecord =>
    if r.attempt < maxAttempts then s.sendReadRecord l r (r.attempt + 1)
    else s.failIdentify l b (if r.badRecord then .recordInvalid else .noReply)
  | .challenge => if r.attempt < maxAttempts then s.sendChallenge l r (r.attempt + 1) else s.challengeNone l r
  | .advance => s.endOperation l fun t => t.lostAdvance b

/-- The reply timer of a lane expires when it has reached 25 ms (R26, R39). -/
def State.replyExpiry (s : State) (l : Lane) : State :=
  match (s.lane l).running with
  | none => s
  | some r =>
    match r.timer with
    | none => s
    | some t =>
      if replyTimeout ≤ t then
        if r.abandoned then s.freeLane l else s.noReply l { r with timer := none }
      else s

/-- The part finishes sending a command: the reply timer starts at 0 ms (R26). -/
def State.commandEnd (s : State) (l : Lane) : State :=
  match (s.lane l).running with
  | none => s
  | some r =>
    match r.timer with
    | some _ => s
    | none => s.modLane l fun x => { x with running := some { r with timer := some 0 } }

end Sys2Proof.Machine
end

