-- ==== Sys2Proof/Machine/Sense.lean ====
section
/-! DEFINITION. The sense converter, the survey schedule, the refill watch and the write hold (chapter 8). -/

namespace Sys2Proof.Machine

/-! ### Schedule and converter arbiter (R138 to R141) -/

/-- Whether a lane is watched closely (R141). -/
def State.watched (s : State) (l : Lane) : Bool :=
  ([0, 1, 2, 3].any fun p : Position =>
      (s.bay (bayAt l p)).slot == some .commit || (s.bay (bayAt l p)).slot == some .final) ||
    match (s.lane l).running with
    | some r => r.step == .advance && r.timer.isSome
    | none => false

/-- The interval of a lane channel, in ms (R141). -/
def State.interval (s : State) (l : Lane) : Nat := if s.watched l then 10 else 1000

/-- Whether all the conditions of a due bay channel hold (R139). -/
def State.bayDue (s : State) (b : Bay) : Bool :=
  (s.bay b).wanted && s.surveyable b && !s.dozing && !s.converting b

/-- A bay's due time after an event: kept while the conditions hold, given by the first event at which they hold, and
gone otherwise (R139). -/
def State.refreshBay (s : State) (b : Bay) (r : BayRec) : BayRec :=
  { r with due := if s.bayDue b then r.due.or (some s.now) else none }

/-- A lane channel becomes due when its timer has reached its interval, and stays due (R141, log 25). -/
def State.refreshLane (s : State) (l : Lane) (r : LaneRec) : LaneRec :=
  match r.supplyTimer with
  | some t => if s.interval l ≤ t then { r with supplyDue := r.supplyDue.or (some s.now) } else r
  | none => r

/-- The due states of all channels after an event. -/
def State.refreshDue (s : State) : State := (s.mapBays s.refreshBay).mapLanes s.refreshLane

/-- The earlier of two due bay channels, the first when they are equal (R138). -/
def earlier (best : Option (Bay × Nat)) (b : Bay) (due : Option Nat) : Option (Bay × Nat) :=
  match due, best with
  | none, best => best
  | some t, none => some (b, t)
  | some t, some (c, u) => if t < u then some (b, t) else some (c, u)

/-- The due bay channel with the earliest due time, the lowest number among equals (R138). -/
def State.firstDueBay (s : State) : Option Bay :=
  (allBays.foldl (fun best b => earlier best b (s.bay b).due) none).map (·.1)

/-- The first due lane channel (R138). -/
def State.firstDueLane (s : State) : Option Lane := allLanes.find? fun l => (s.lane l).supplyDue.isSome

/-- The converter takes a lane channel (R137, R141). -/
def State.takeLane (s : State) (l : Lane) : State :=
  { (s.modLane l fun r => { r with supplyTimer := none, supplyDue := none }) with
    converter := some { channel := laneChannel l, discard := false } }

/-- The converter takes a bay channel; a waiting member of the run is marked taken (R137, R139, R140, R153). -/
def State.takeBay (s : State) (b : Bay) : State :=
  { (s.modBay b fun r => { r with wanted := false, surveyTimer := none, due := none }) with
    converter := some { channel := bayChannel b, discard := false }
    run := s.run.map fun r => if r.members[b].isSome then { r with members := put r.members b (some true) } else r }

/-- The converter arbiter runs: lane channels first, then the earliest due bay channel; only while the device is RUNNING
and the converter IDLE (R136, R138). -/
def State.converterArbiter (s : State) : State :=
  if s.device == .running && s.converter.isNone then
    match s.firstDueLane with
    | some l => s.takeLane l
    | none =>
      match s.firstDueBay with
      | some b => s.takeBay b
      | none => s
  else s

/-- What follows every event that may make a channel due or free the converter (R138, log 24). -/
def State.settleConverter (s : State) : State := s.refreshDue.converterArbiter

/-! ### Levels and evidence (R144 to R147) -/

/-- The sensed level of a raw reading, rounded half up and capped (R144). -/
def sensedLevel (c : Calib) (raw : Nat) : Nat :=
  let num : Int := ((raw : Int) - c.empty) * 1000
  let den : Int := (c.full : Int) - c.empty
  let num' := if den < 0 then -num else num
  let den' := if den < 0 then -den else den
  if num' ≤ 0 then 0 else min 1000 ((2 * num'.toNat + den'.toNat) / (2 * den'.toNat))

/-- The expected level (R145). -/
def Binding.expectedLevel (bd : Binding) : Nat := bd.remaining * 1000 / bd.capacity

/-- Step 1 of a survey: the reinsert check, where it is pending (R147). -/
def State.reinsertStep (s : State) (b : Bay) (bd : Binding) (sensed : Nat) : State :=
  match bd.reinsert, (s.entryOf b).bind (·.lastSensed) with
  | true, some last => if last + (s.bayCfg b).calib.margin ≤ sensed then s.addEvidence b .reinsertRise else s
  | true, none => s
  | false, _ => s

/-- Step 2 of a survey: the LEVEL_RISE counter (R146). -/
def State.counterStep (s : State) (b : Bay) (bd : Binding) (sensed : Nat) : State :=
  if bd.expectedLevel + (s.bayCfg b).calib.margin ≤ sensed then
    if (s.bay b).counter + 1 = (s.bayCfg b).calib.persist then
      (s.modBay b fun r => { r with counter := 0 }).addEvidence b .levelRise
    else s.modBay b fun r => { r with counter := r.counter + 1 }
  else s.modBay b fun r => { r with counter := 0 }

/-- Step 3 of a survey: the entry's last sensed level is set, and the reinsert check is no longer pending (R145, R68). -/
def State.lastSensedStep (s : State) (b : Bay) (sensed : Nat) : State :=
  (s.setTable (s.withEntry b fun e => { e with lastSensed := some sensed })).modBinding b fun bd =>
    { bd with reinsert := false }

/-- A survey of an ACTIVE bay (R145). -/
def State.survey (s : State) (b : Bay) (bd : Binding) (raw : Nat) : State :=
  let sensed := sensedLevel (s.bayCfg b).calib raw
  ((s.reinsertStep b bd sensed).counterStep b bd sensed).lastSensedStep b sensed

/-- The run after a conversion of a bay's channel: a taken member ends, with its result when the reading was kept
(R153). -/
def SurveyRun.conversionEnded (r : SurveyRun) (b : Bay) (result : Option (Nat × Nat)) : SurveyRun :=
  if r.members[b] = some true then
    { r with
      members := put r.members b none
      results := match result with
        | some x => put r.results b (some x)
        | none => r.results }
  else r

/-- The reading of a bay channel: judged as a survey or dropped, then the survey timer and the run move on (R137, R140,
R153). -/
def State.bayReading (s : State) (b : Bay) (discard : Bool) (raw : Nat) : State :=
  let kept := if discard then none else (s.bay b).phase.active?
  let result := kept.map fun _ => (raw, sensedLevel (s.bayCfg b).calib raw)
  let judged := match kept with
    | some bd => s.survey b bd raw
    | none => s
  let timed := if judged.isActive b then judged.modBay b fun r => { r with surveyTimer := some 0 } else judged
  State.passCheck { timed with run := timed.run.map fun r => r.conversionEnded b result }

/-- The write hold of a lane after a reading (R150). -/
def holdAfter (hold : Bool) (holdRaw raw : Nat) : Bool := if hold then raw < holdRaw + 32 else raw < holdRaw

/-- The reading of a lane channel: the write-hold check, the supply timer, and the lane's arbiter when the hold has been
cleared (R150, R141, R31). -/
def State.laneReading (s : State) (l : Lane) (raw : Nat) : State :=
  let before := (s.lane l).writeHold
  let after := holdAfter before s.settings.holdRaw raw
  let checked := s.modLane l fun r =>
    { r with writeHold := after, lastSupply := some raw, supplyTimer := some 0 }
  let latched := if after && !before then checked.latch (laneSite l) .laneHold else checked
  if before && !after then latched.arbitrate l else latched

/-- A conversion completes (R137). -/
def State.conversionComplete (s : State) (raw : Nat) : State :=
  match s.converter with
  | none => s
  | some c =>
    let idle := { s with converter := none }
    if h : c.channel.val < 12 then (idle.bayReading ⟨c.channel.val, h⟩ c.discard raw).settleConverter
    else (idle.laneReading ⟨c.channel.val - 12, by omega⟩ raw).settleConverter

end Sys2Proof.Machine
end

