-- ==== Sys2Proof/Machine/Layout.lean ====
section
/-! DEFINITION. The layouts of the outbound frame, its items and the query reply bodies (R178, R182). -/

namespace Sys2Proof.Machine

/-! ### Frames and items (R178) -/

/-- A notice pair's byte: site in bits 7..4, kind code in bits 3..0. -/
def NoticePair.byte (p : NoticePair) : Byte := BitVec.ofNat 8 (p.site.val * 16 + p.kind.val)

/-- The item type. -/
def Item.typeCode : Item → Nat
  | .idle => 0
  | .reply _ => 1
  | .notice _ _ => 2

/-- The bytes of an item. -/
def Item.bytes : Item → List Byte
  | .idle => []
  | .reply r => [r.ticket, r.kind] ++ toBytes 1 r.result.code ++ r.body
  | .notice lv pairs => toBytes 1 lv.val ++ toBytes 1 pairs.length ++ pairs.map NoticePair.byte

/-- The bytes of an outbound frame: status, type, length, item, and the CRC-16 over all but the status (R169). -/
def Frame.bytes (f : Frame) : List Byte :=
  let covered := toBytes 1 f.item.typeCode ++ toBytes 1 f.item.bytes.length ++ f.item.bytes
  toBytes 1 f.status.code ++ covered ++ toBytes 2 (crc16 covered).toNat

/-- What the part sends while the host clocks a number of bytes: the outbound frame, and 0x00 after its CRC (R169). -/
def Frame.sent (f : Frame) (clocked : Nat) : List Byte :=
  f.bytes.take clocked ++ List.replicate (clocked - f.bytes.length) 0

/-! ### BAY_GET -/

/-- An evidence set as a number: the bit of each kind (R181). -/
def evidenceBits (ev : List EvidenceKind) : Nat := ev.foldl (fun acc k => acc + 2 ^ k.code) 0

/-- The reject reason of a bay state. -/
def Phase.reason? : Phase → Option RejectReason
  | .rejected r _ => some r
  | .off => none
  | .vacant => none
  | .seated => none
  | .identifying => none
  | .active _ => none
  | .released _ => none

/-- The OK reply body of BAY_GET (R20, R182). -/
def State.bayBody (s : State) (b : Bay) : List Byte :=
  let r := s.bay b
  let bd := r.phase.binding?
  toBytes 1 b.val ++ toBytes 1 r.phase.code ++ toBytes 1 (slotCodeOf r.slot) ++
    [bitsByte false false false false (s.bayCfg b).disabled (s.raw[b] == .seated) r.filter.window.isSome
      (r.filter.level == .seated)] ++
    toBytes 2 (s.bayCfg b).slotCode.toNat ++ byteOrAbsent (r.phase.reason?.map (·.code)) ++
    byteOrAbsent (bd.map fun x => if x.isRefilled then 1 else 0) ++
    byteOrAbsent (bd.map fun x => evidenceBits x.evidence) ++
    byteOrAbsent (bd.bind fun x => x.evidence.head?.map (·.code)) ++
    wideOrAbsent 8 (bd.map (·.serial.toNat)) ++ wordOrAbsent (bd.map (·.product.toNat)) ++
    wideOrAbsent 3 (bd.map (·.capacity)) ++ byteOrAbsent (bd.map (·.keyIndex.val)) ++
    byteOrAbsent (bd.map (·.commit.state.code)) ++ byteOrAbsent (bd.map (·.ink.code)) ++ toBytes 1 r.line.code

/-! ### TABLE_GET -/

/-- The entry part of a TABLE_GET body (R182). -/
def Entry.body (e : Entry) : List Byte :=
  [bitsByte false false e.bay.isSome e.cloneSeen e.refilled.isSome e.lastSensed.isSome e.unsure.isSome true] ++
    toBytes 8 e.serial.toNat ++ toBytes 2 e.product.toNat ++ toBytes 3 e.capacity ++ toBytes 3 e.high ++
    toBytes 3 e.owed ++ wideOrAbsent 3 (e.unsure.map (·.target)) ++ wideOrAbsent 3 (e.unsure.map (·.amount)) ++
    wordOrAbsent e.lastSensed ++ byteOrAbsent (e.refilled.map (·.code)) ++ byteOrAbsent (e.bay.map (·.val))

/-- The OK reply body of TABLE_GET (R74, R182): the body ends after a clear flags byte when the position is EMPTY. -/
def State.tableBody (s : State) (position : Nat) : List Byte :=
  toBytes 1 position ++ toBytes 1 s.table.length ++
    match s.table[position]? with
    | some e => e.body
    | none => [0]

/-! ### METER_GET -/

/-- The draw figures of a bay, in the states that hold them (R75). -/
def Phase.draw? : Phase → Option DrawFigures
  | .active bd => some bd.draw
  | .released bd => some bd.draw
  | .rejected _ d => some d
  | .off => none
  | .vacant => none
  | .seated => none
  | .identifying => none

/-- The OK reply body of METER_GET (R96, R182); the ceiling flag of a bay that holds none is a free bit (log 21). -/
def State.meterBody (s : State) (b : Bay) (page : Nat) : List Byte :=
  let p := (s.bay b).phase
  let cfg := s.bayCfg b
  let bd := p.binding?
  let acct := bd.map (·.acct)
  toBytes 1 b.val ++ toBytes 1 p.code ++ toBytes 1 page ++
    [bitsByte false false false false false ((acct.map (·.ceiling)).getD ((Config.absentBits s.now 4).getLsbD 0)) p.reason?.isSome bd.isSome] ++
    if page = 0 then
      byteOrAbsent (bd.map (·.commit.state.code)) ++
        toBytes 2 cfg.vol[0] ++ toBytes 2 cfg.vol[1] ++ toBytes 2 cfg.vol[2] ++ toBytes 2 cfg.vol[3] ++
        toBytes 2 cfg.scale ++ toBytes 2 cfg.purgeRate ++ toBytes 1 cfg.commitStep ++
        wideOrAbsent 3 (acct.map (·.committed)) ++ wideOrAbsent 3 (acct.map (·.inflight)) ++
        wideOrAbsent 3 (bd.map (·.remaining)) ++ wideOrAbsent 3 (bd.map (·.overdraw)) ++
        wordOrAbsent (p.draw?.map (·.remainder)) ++ wideOrAbsent 12 (p.draw?.map (·.swath)) ++
        wideOrAbsent 12 (p.draw?.map (·.lastSwath))
    else
      wideOrAbsent 3 (acct.map (·.charged)) ++ wideOrAbsent 3 (acct.map (·.pending)) ++
        wideOrAbsent 3 (acct.map (·.carried)) ++ wideOrAbsent 5 (acct.map (·.fine)) ++
        wideOrAbsent 12 (p.draw?.map (·.drawn)) ++ wideOrAbsent 12 (acct.map (·.credited))

/-! ### STATUS_GET -/

/-- The policy byte (R182 byte 5). -/
def Policy.byte (p : Policy) : Byte :=
  BitVec.ofNat 8 ((if p.isSealed then 1 else 0) + 2 * p.rejectMode.code + 4 * p.refillMode.code + 16 * p.outMode.code)

/-- The six bytes of a lane in STATUS_GET (R182); the bits an IDLE lane has no value for are free (log 21). -/
def State.laneBody (s : State) (l : Lane) : List Byte :=
  let r := s.lane l
  let hold := if r.writeHold then 64 else 0
  let activity := match r.running with
    | some x => 1 + 2 * x.op.code + 8 * x.step.code + (if x.abandoned then 32 else 0)
    | none => 2 * (Config.absentBits s.now l.val).toNat
  toBytes 1 (activity + hold) ++ byteOrAbsent (r.running.map fun x => (bayAt l x.position).val) ++
    byteOrAbsent (r.running.map (·.attempt)) ++ toBytes 1 r.lastServed.val ++ wordOrAbsent r.lastSupply

/-- The converter byte of STATUS_GET (R182 byte 24). -/
def State.converterByte (s : State) : Byte :=
  match s.converter with
  | some c => BitVec.ofNat 8 (128 + c.channel.val)
  | none => ((Config.absentBits s.now 3).setWidth 4).setWidth 8

/-- A condition of the four levels as four bits, bit n for level n. -/
def levelBits (f : Level → Bool) : Nat := allLevels.foldl (fun acc lv => acc + if f lv then 2 ^ lv.val else 0) 0

/-- The OK reply body of STATUS_GET, as the state stands at the take (R176, R182). -/
def State.statusBody (s : State) : List Byte :=
  toBytes 1 s.device.code ++ toBytes 1 s.save.code ++
    toBytes 1 ((if s.writer.dirty.table then 4 else 0) + (if s.writer.dirty.policy then 2 else 0) +
      (if s.writer.dirty.settings then 1 else 0) + 16 * writerCode s.writer.writing) ++
    toBytes 1 ((List.range 8).foldl (fun acc i => acc + if (s.masterKeys[i]?.join).isSome then 2 ^ i else 0) 0) ++
    [s.policy.allowed, s.policy.byte] ++ allLanes.flatMap s.laneBody ++ [s.converterByte] ++
    toBytes 2 s.settings.holdRaw ++ toBytes 1 (levelBits s.inService + 16 * levelBits s.offerable) ++
    (allLevels.flatMap fun lv => toBytes 1 (s.latchedPairs lv).length) ++
    (allKinds.flatMap fun k => toBytes 1 s.settings.routing[k].val) ++
    toBytes 1 s.settings.levelMask.toNat ++ toBytes 1 s.settings.wakeMask.toNat ++
    [bitsByte false false false false false s.wake s.attention s.dozing] ++
    toBytes 1 s.requests.length ++ toBytes 1 s.replies.length ++ toBytes 1 s.reservations

end Sys2Proof.Machine
end

