-- ==== Sys2Proof/Machine/Requests.lean ====
section
/-! DEFINITION. The take of a request (R172), and what the requests share. -/

namespace Sys2Proof.Machine

/-- Whether a kind is served while the device is FAULTED (R172). -/
def ReqKind.servedFaulted : ReqKind → Bool
  | .statusGet => true
  | .restart => true
  | _ => false

/-- The judgement and action of a request that has left the queue (R172). -/
def State.judgeTaken (s : State) (k : ReqKind) (r : Request) (act : Request → State → State) : State :=
  if s.device == .faulted && !k.servedFaulted then s.reply r .faulted []
  else if k.lengthOk r.body.length then act r s
  else s.reply r .badArg []

/-- The take of the request at the head of the request queue, as one of kind `k`; with no such request there nothing is
taken (R172, log 3). -/
def State.take (s : State) (k : ReqKind) (act : Request → State → State) : State :=
  match s.requests with
  | [] => s
  | r :: rest => if r.kind = k.code then State.judgeTaken { s with requests := rest } k r act else s

/-- The take of a request whose kind code names no request (R172). -/
def State.takeUnknown (s : State) : State :=
  match s.requests with
  | [] => s
  | r :: rest => if (ReqKind.ofCode r.kind).isNone then State.reply { s with requests := rest } r .unknownKind [] else s

/-- A one-byte field of a body. -/
def Request.byteAt (r : Request) (i : Nat) : Nat := field r.body i 1

/-- A two-byte field of a body. -/
def Request.wordAt (r : Request) (i : Nat) : Nat := field r.body i 2

/-- A request that names one bay in its first byte: a number above 11 is refused with BAD_ARG (R172). -/
def State.withBay (s : State) (r : Request) (act : Bay → State) : State :=
  match bayOf? (r.byteAt 0) with
  | some b => act b
  | none => s.reply r .badArg []

/-- A change of settings marks SETTINGS dirty and triggers the store writer (R78, R186). -/
def State.settingsChanged (s : State) : State := (s.markDirty .settings).trigger

/-- What follows every event that may have placed a lane request or made a channel due: the lane arbiters and then the
converter arbiter run (R31, R138, log 13, log 24). -/
def State.runArbiters (s : State) : State := s.arbitrateAll.settleConverter

/-- UNKNOWN_KIND. -/
def execUnknownKind (s : State) : Host.Outcome State Fault Refusal := .next s.takeUnknown

end Sys2Proof.Machine
end

