-- ==== Sys2Proof/Machine/Start.lean ====
section
/-! DEFINITION. The load of the sections, the entry into RUNNING, the power-fail save, and time (R184, R185, R188). -/

namespace Sys2Proof.Machine

/-! ### The load (R184, R185) -/

/-- Whether stored entries have the shape of R61 and R62 (R71). -/
def tableShapeOk (t : List Entry) : Bool :=
  decide (t.length ≤ 32) && decide ((t.map (·.serial)).Nodup) && t.all fun e =>
    e.capacity != 0 && (e.unsure.map (·.amount)) != some 0 && (e.lastSensed.getD 0) ≤ 1000 &&
      e.refilled != some .knownRefilled

/-- The stored table a load can use: absent when its check fails or its shape is broken (R71, R184). -/
def Store.goodTable (st : Store) : Option (List Entry) := st.table.filter tableShapeOk

/-- The policy after the load: sealed when the seal mark is set, and less every revoked slot (R184). -/
def Policy.underMarks (p : Policy) (o : OneWay) : Policy :=
  { p with isSealed := p.isSealed || o.sealMark, allowed := p.allowed &&& ~~~o.revoked }

/-- The stored copies once the load has found some of them damaged (log 6). -/
def Store.damaged (st : Store) (policy settings table : Bool) : Store :=
  { policy := if policy then none else st.policy, settings := if settings then none else st.settings
    table := if table then none else st.table }

/-- The sections take their loaded or default values; a lost one is dirty (R71, R184). -/
def State.loadSections (s : State) : State :=
  let table := s.store.goodTable
  { s with
    policy := (s.store.policy.getD (Policy.strict s.oneWay)).underMarks s.oneWay
    settings := s.store.settings.getD Settings.factory
    table := (table.getD []).map fun e => { e with bay := none }
    writer :=
      { s.writer with
        dirty :=
          { table := table.isNone, policy := s.store.policy.isNone, settings := s.store.settings.isNone } } }

/-- A presence filter starts (R8). -/
def Filter.start (raw : Presence) : Filter :=
  { level := .absent, window := match raw with
      | .seated => some { level := .seated, ms := 0 }
      | .absent => none }

/-- A bay at the entry into RUNNING: its thresholds are the stored pair, and an enabled bay becomes VACANT with its
filter started (R9, R120). -/
def BayRec.enterRunning (cfg : BaySettings) (raw : Presence) (r : BayRec) : BayRec :=
  if cfg.disabled then { r with thresholds := cfg.stored }
  else { r with thresholds := cfg.stored, phase := .vacant, filter := Filter.start raw }

/-- The device enters RUNNING: bays, permit lines, lane channels and lane arbiters start (R9, R31, R134, R141). -/
def State.enterRunning (s : State) : State :=
  let bays := { s with device := .running }.mapBays fun b r => r.enterRunning (s.bayCfg b) s.raw[b]
  (bays.evalLines.mapLanes fun _ r => { r with supplyTimer := some 0, supplyDue := some s.now }).arbitrateAll

/-! ### The power-fail save (R188, R70) -/

/-- An assertion of PFAIL, taken in RUNNING with save state NONE and no RESTART in progress (R188). -/
def State.pfailSave (s : State) : State :=
  if s.device == .running && s.save == .none && !s.restarting then
    State.trigger { s.shadowAll.markDirty .table with save := .saving }
  else s

/-- An entry with its shadow values cleared, when it names a bay (R70). -/
def Entry.clearShadow (e : Entry) : Entry := if e.bay.isSome then { e with owed := 0, unsure := none } else e

/-- A deassertion of PFAIL, taken in SAVING or SAVED with no RESTART in progress (R188). -/
def State.pfailEnd (s : State) : State :=
  if s.save != .none && !s.restarting then
    { (State.trigger ((s.setTable (s.table.map Entry.clearShadow)).markDirty .table)) with save := .none }
  else s

/-! ### Load completion (R185) -/

/-- The store answered: the sections are loaded and the device becomes RUNNING; lost sections latch STORE_FAULT, a dirty
set triggers the writer, and an asserted PFAIL input is taken as an assertion (R185). -/
def State.loadAnswered (s : State) : State :=
  let loaded := s.loadSections
  let latched := if loaded.writer.dirty.isEmpty then loaded else loaded.latch deviceSite .storeFault
  let started := latched.enterRunning
  let triggered := if started.writer.dirty.isEmpty then started else started.trigger
  let saved := if triggered.pfail then triggered.pfailSave else triggered
  saved.settleConverter

/-- The store did not answer: every section takes its default and the device becomes FAULTED (R185). -/
def State.loadFailed (s : State) : State :=
  let defaults :=
    { s with
      policy := (Policy.strict s.oneWay).underMarks s.oneWay, settings := Settings.factory, table := []
      device := .faulted }
  ((defaults.mapBays fun _ r => { r with thresholds := Thresholds.factory }).evalLines).latch deviceSite .storeFault

/-- The load completes, in STARTING (R185). -/
def State.loadComplete (s : State) (answered policy settings table : Bool) : State :=
  if s.device == .starting then
    if answered then State.loadAnswered { s with store := s.store.damaged policy settings table } else s.loadFailed
  else s

/-! ### The 1 ms time base (R3, log 1, log 2) -/

/-- The window length of a level, in ms (R7). -/
def windowLength : Presence → Nat
  | .seated => 50
  | .absent => 5

/-- A timer one ms later, stopping at its limit. -/
def countUpTo (limit t : Nat) : Nat := if t < limit then t + 1 else t

/-- A bay's timers one ms later: presence window (R7), hold-limit timer (R128), survey timer (R140). -/
def BayRec.tick (period : Nat) (r : BayRec) : BayRec :=
  { r with
    filter :=
      { r.filter with window := r.filter.window.map fun w => { w with ms := countUpTo (windowLength w.level) w.ms } }
    line := match r.line with
      | .armed t => .armed (countUpTo holdLimit t)
      | .allow => .allow
      | .inhibit => .inhibit
    surveyTimer := r.surveyTimer.map (countUpTo period) }

/-- A lane's timers one ms later: reply timer (R26) and supply timer (R141). -/
def LaneRec.tick (r : LaneRec) : LaneRec :=
  { r with
    running := r.running.map fun x => { x with timer := x.timer.map (countUpTo replyTimeout) }
    supplyTimer := r.supplyTimer.map (countUpTo 1000) }

/-- The expiries of a bay that are due: its window, its hold limit, its survey timer. -/
def State.bayExpiries (s : State) (b : Bay) : List Instr :=
  let r := s.bay b
  (match r.filter.window with
    | some w => if windowLength w.level ≤ w.ms then [.presenceWindowExpiry b] else []
    | none => []) ++
    (match r.line with
      | .armed t => if holdLimit ≤ t then [.holdLimitExpiry b] else []
      | .allow => []
      | .inhibit => []) ++
    match r.surveyTimer with
    | some t => if (s.bayCfg b).calib.period ≤ t && !r.wanted then [.surveyTimerExpiry b] else []
    | none => []

/-- The expiries of a lane that are due: its reply timer, its supply timer. -/
def State.laneExpiries (s : State) (l : Lane) : List Instr :=
  let r := s.lane l
  (match r.running.bind (·.timer) with
    | some t => if replyTimeout ≤ t then [.replyTimerExpiry l] else []
    | none => []) ++
    match r.supplyTimer with
    | some t => if s.interval l ≤ t && r.supplyDue.isNone then [.supplyTimerExpiry l] else []
    | none => []

/-- One tick of the time base: every timer counts, and the expiries that are due are queued, bays first (log 2). -/
def State.tick (s : State) : State :=
  let later :=
    ({ s with now := s.now + 1 }.mapBays fun b r => r.tick (s.bayCfg b).calib.period).mapLanes fun _ r => r.tick
  { later with pending := allBays.flatMap later.bayExpiries ++ allLanes.flatMap later.laneExpiries }

end Sys2Proof.Machine
end

