-- ==== Sys2Proof/Machine/BayCmds.lean ====
section
/-! DEFINITION. The requests on one bay: BAY_RECHECK, BAY_RELEASE, BAY_DISABLE, BAY_ENABLE and COMMIT_RETRY (R17, R18,
R19, R112, R114). -/

namespace Sys2Proof.Machine

/-! ### BAY_RECHECK (R17) -/

/-- Whether a bay state can be rechecked: ACTIVE, REJECTED or RELEASED (R17). -/
def Phase.canRecheck : Phase → Bool
  | .active _ => true
  | .rejected _ _ => true
  | .released _ => true
  | .off => false
  | .vacant => false
  | .seated => false
  | .identifying => false

/-- A recheck: any operation is abandoned, a binding or reject reason ends, and IDENTIFY is placed (R17). -/
def State.recheck (s : State) (b : Bay) : State :=
  ((s.abandon b).leavePhase b .identifying false).modBay b fun x => { x with slot := some .identify }

/-- BAY_RECHECK (R17). -/
def execBayRecheck (s : State) : Host.Outcome State Fault Refusal :=
  .next <| s.take .bayRecheck fun r t => t.withBay r fun b =>
    if (t.bay b).phase.canRecheck then (t.recheck b).runArbiters.reply r .ok [] else t.reply r .bayState []

/-! ### BAY_RELEASE (R114) -/

/-- The release is recorded, and acts by the commit state it finds (R114). -/
def State.startRelease (s : State) (b : Bay) (bd : Binding) (rel : Release) : State :=
  let recorded := s.modBinding b fun x => { x with commit := { x.commit with release := some rel } }
  match bd.commit.state with
  | .idle => if bd.acct.pending = 0 then recorded.completeRelease b rel .ok else recorded.placeFinal b
  | .queued => recorded.modBay b fun x => { x with slot := some .final }
  | .inFlight _ _ => recorded
  | .reconciling _ _ => recorded
  | .stopped => recorded.completeRelease b rel .commitUncertain
  | .uncertain _ => recorded.completeRelease b rel .commitUncertain

/-- BAY_RELEASE (R114). -/
def execBayRelease (s : State) : Host.Outcome State Fault Refusal :=
  .next <| s.take .bayRelease fun r t => t.withBay r fun b =>
    match (t.bay b).phase.active? with
    | none => t.reply r .bayState []
    | some bd =>
      if bd.commit.release.isSome then t.reply r .busy []
      else (t.startRelease b bd { ticket := r.ticket, reserved := true }).runArbiters

/-! ### BAY_DISABLE and BAY_ENABLE (R18, R19) -/

/-- A presence filter that has stopped (R8). -/
def Filter.stopped : Filter := { level := .absent, window := none }

/-- Steps 1 to 5 of a disable (R18). -/
def State.turnOff (s : State) (b : Bay) : State :=
  (((s.abandon b).leavePhase b .off false).modBay b fun x => { x with filter := Filter.stopped }).clearSite (baySite b)

/-- BAY_DISABLE (R18): a bay already OFF is left as it is. -/
def execBayDisable (s : State) : Host.Outcome State Fault Refusal :=
  .next <| s.take .bayDisable fun r t => t.withBay r fun b =>
    if (t.bay b).phase = .off then t.reply r .ok []
    else
      ((t.turnOff b).modBayCfg b fun c => { c with disabled := true }).settingsChanged.settleConverter.reply r .ok []

/-- A bay that comes back into use is VACANT with its filter started (R19). -/
def State.turnOn (s : State) (b : Bay) : State :=
  (s.setPhase b .vacant).modBay b fun x => { x with slot := none, filter := Filter.start s.raw[b] }

/-- BAY_ENABLE (R19). -/
def execBayEnable (s : State) : Host.Outcome State Fault Refusal :=
  .next <| s.take .bayEnable fun r t => t.withBay r fun b =>
    if (t.bay b).phase = .off then
      ((t.turnOn b).modBayCfg b fun c => { c with disabled := false }).settingsChanged.reply r .ok []
    else t.reply r .bayState []

/-! ### COMMIT_RETRY (R112) -/

/-- A retry: RECONCILE is placed for the unknown flight (R112). -/
def State.retryCommit (s : State) (b : Bay) (target : Nat) : State :=
  (s.modBay b fun x => { x with slot := some .reconcile }).changeCommit b fun bd =>
    bd.setCommit (.reconciling target false)

/-- The target a COMMIT_RETRY would reconcile: that of an ACTIVE bay in UNCERTAIN (R112). -/
def Phase.retryTarget (p : Phase) : Option Nat :=
  match p.active? with
  | none => none
  | some bd =>
    match bd.commit.state with
    | .uncertain t => some t
    | .idle => none
    | .queued => none
    | .inFlight _ _ => none
    | .reconciling _ _ => none
    | .stopped => none

/-- COMMIT_RETRY (R112). -/
def execCommitRetry (s : State) : Host.Outcome State Fault Refusal :=
  .next <| s.take .commitRetry fun r t => t.withBay r fun b =>
    match (t.bay b).phase.retryTarget with
    | some target => (t.retryCommit b target).runArbiters.reply r .ok []
    | none => t.reply r .bayState []

end Sys2Proof.Machine
end

