-- ==== Sys2Proof/Machine/Events.lean ====
section
/-! DEFINITION. The events that no host frame carries: presence inputs, lanes, timers, converter, store, PFAIL, power and
reset. A command that finds nothing it could happen to changes nothing (log 29). -/

namespace Sys2Proof.Machine

/-! ### Presence (R7, R10, R14) -/

/-- A filter after a change of its raw input (R7). -/
def Filter.rawChange (level : Presence) (f : Filter) : Filter :=
  { f with window := if level = f.level then none else some { level := level, ms := 0 } }

/-- A bay after a change of its raw input; in OFF the filter takes no change (R7, R8). -/
def BayRec.rawChange (level : Presence) (r : BayRec) : BayRec :=
  if r.phase = .off then r else { r with filter := r.filter.rawChange level }

/-- RAW_PRESENCE_CHANGE (R7); the level the input already had is no change (log 33). -/
def execRawPresenceChange (b : Bay) (level : Presence) (s : State) : Host.Outcome State Fault Refusal :=
  .next <|
    if s.raw[b] = level then s else State.modBay { s with raw := put s.raw b level } b fun r => r.rawChange level

/-- A filtered insertion, taken in VACANT (R10). -/
def State.insertion (s : State) (b : Bay) : State :=
  if (s.bay b).phase = .vacant then
    ((s.setPhase b .seated).modBay b fun r => { r with slot := some .identify }).latch (baySite b) .seated
  else s

/-- A filtered removal, taken in every state but OFF and VACANT (R14). -/
def State.removal (s : State) (b : Bay) : State :=
  if (s.bay b).phase = .off ∨ (s.bay b).phase = .vacant then s
  else ((s.abandon b).leavePhase b .vacant true).latch (baySite b) .vacated

/-- A presence window closes: the filtered level takes its level (R7). -/
def State.closeWindow (s : State) (b : Bay) (level : Presence) : State :=
  let closed := s.modBay b fun r => { r with filter := { level := level, window := none } }
  match level with
  | .seated => closed.insertion b
  | .absent => closed.removal b

/-- PRESENCE_WINDOW_EXPIRY (R7), when the window has held its length. -/
def execPresenceWindowExpiry (b : Bay) (s : State) : Host.Outcome State Fault Refusal :=
  .next <|
    match (s.bay b).filter.window with
    | none => s
    | some w => if windowLength w.level ≤ w.ms then (s.closeWindow b w.level).runArbiters else s

/-! ### Lanes (R26) -/

/-- TAG_REPLY (R26). -/
def execTagReply (l : Lane) (bytes : List Byte) (s : State) : Host.Outcome State Fault Refusal :=
  .next (s.tagReply l bytes).settleConverter

/-- REPLY_TIMER_EXPIRY (R26). -/
def execReplyTimerExpiry (l : Lane) (s : State) : Host.Outcome State Fault Refusal :=
  .next (s.replyExpiry l).settleConverter

/-- LANE_COMMAND_END (R26). -/
def execLaneCommandEnd (l : Lane) (s : State) : Host.Outcome State Fault Refusal :=
  .next (s.commandEnd l).settleConverter

/-! ### Timers (R132, R140, R141) -/

/-- HOLD_LIMIT_EXPIRY (R132). -/
def execHoldLimitExpiry (b : Bay) (s : State) : Host.Outcome State Fault Refusal :=
  .next <| s.modBay b fun r => { r with line := r.line.expire }

/-- SURVEY_TIMER_EXPIRY (R140), when the timer has reached the survey period. -/
def execSurveyTimerExpiry (b : Bay) (s : State) : Host.Outcome State Fault Refusal :=
  .next <|
    match (s.bay b).surveyTimer with
    | none => s
    | some t =>
      if (s.bayCfg b).calib.period ≤ t then (s.modBay b fun r => { r with wanted := true }).settleConverter else s

/-- SUPPLY_TIMER_EXPIRY (R141), when the timer has reached the interval. -/
def execSupplyTimerExpiry (l : Lane) (s : State) : Host.Outcome State Fault Refusal :=
  .next <|
    match (s.lane l).supplyTimer with
    | none => s
    | some t => if s.interval l ≤ t then s.settleConverter else s

/-! ### Converter and store (R137, R186) -/

/-- CONVERSION_COMPLETE (R137). -/
def execConversionComplete (raw : BitVec 10) (s : State) : Host.Outcome State Fault Refusal :=
  .next (s.conversionComplete raw.toNat)

/-- STORE_WRITE_COMPLETE (R186). -/
def execStoreWriteComplete (success : Bool) (s : State) : Host.Outcome State Fault Refusal :=
  .next (s.writeComplete success)

/-! ### PFAIL, power, reset, load (R185, R188) -/

/-- PFAIL_ASSERT (R188). -/
def execPfailAssert (s : State) : Host.Outcome State Fault Refusal := .next (State.pfailSave { s with pfail := true })

/-- PFAIL_DEASSERT (R188). -/
def execPfailDeassert (s : State) : Host.Outcome State Fault Refusal := .next (State.pfailEnd { s with pfail := false })

/-- POWER_ON (R185). -/
def execPowerOn (s : State) : Host.Outcome State Fault Refusal := .next (coldStart s)

/-- RESET_PIN (R185). -/
def execResetPin (s : State) : Host.Outcome State Fault Refusal := .next (coldStart s)

/-- LOAD_COMPLETION (R185). -/
def execLoadCompletion (answered policyDamaged settingsDamaged tableDamaged : Bool) (s : State) :
    Host.Outcome State Fault Refusal :=
  .next (s.loadComplete answered policyDamaged settingsDamaged tableDamaged)

end Sys2Proof.Machine
end

