-- ==== Sys2Proof/Machine/Link.lean ====
section
/-! DEFINITION. Frames: their build, the delivery of their item, and the host half (R169 to R174). The sender of the
commands sends FRAME_START first, and then what the end of the frame holds (log 4). -/

namespace Sys2Proof.Machine

/-! ### Start of a frame and delivery (R169) -/

/-- The item of an outbound frame: the reply at the head of the reply queue, else a notice record, else IDLE; in STARTING
always IDLE (R169, R170). A frame that begins after the load is built as any other, be it the first one (log 39). -/
def State.buildItem (s : State) : Item :=
  if s.device == .starting then .idle
  else
    match s.replies with
    | r :: _ => .reply r
    | [] => s.noticeRecord.getD .idle

/-- FRAME_START: doze ends, and the outbound frame is built (R165, R169). -/
def State.frameStart (s : State) : State :=
  State.settleConverter
    { s with dozing := false, frame := some { status := s.status, item := s.buildItem, toDeliver := true } }

/-- A RESTART reply at whose leaving the cold start begins: results OK and PARTIAL (R189). -/
def Reply.endsPart (r : Reply) : Bool :=
  r.kind == ReqKind.code .restart && (r.result == .ok || r.result == .partially)

/-- A DOZE reply at whose delivery the link enters doze (R165). -/
def Reply.beginsDoze (r : Reply) : Bool := r.kind == ReqKind.code .doze && r.result == .ok

/-- The delivery of a reply: it leaves the queue, and a DOZE or RESTART reply has its consequence (R165, R169, R189). -/
def State.deliverReply (s : State) (r : Reply) : State :=
  let popped := { s with replies := s.replies.drop 1 }
  if r.endsPart then coldStart popped else { popped with dozing := popped.dozing || r.beginsDoze }

/-- The delivery of an item (R169). -/
def State.deliverItem (s : State) : Item → State
  | .idle => s
  | .reply r => s.deliverReply r
  | .notice lv pairs => s.deliverNotice lv pairs

/-- ITEM_DELIVERY: the frame ends after `clocked` bytes, and its item is delivered when at least 3 + n + 2 of them were
clocked (R169). -/
def State.endFrame (s : State) (clocked : Nat) : State :=
  match s.frame with
  | none => s
  | some f =>
    if f.toDeliver && decide (3 + f.item.bytes.length + 2 ≤ clocked) then
      (State.deliverItem { s with frame := some { f with toDeliver := false } } f.item).settleConverter
    else s

/-! ### The host half (R170, R171, R174) -/

/-- A frame's outcome; in STARTING it is NOT_READY whatever the host sent (R170). The device state is that of the frame's
end (log 38). -/
def State.outcome (s : State) (st : LinkStatus) : State :=
  { s with status := if s.device == .starting then .notReady else st }

/-- Whether both queues have room for one more request (R171). -/
def State.hasRoom (s : State) : Bool :=
  decide (s.requests.length < 4) && decide (s.replies.length + s.reservations < 8)

/-- The two check bytes of a host half whose length byte is `l` are its CRC-16 (R170, R178). -/
def hostCheckOk (bytes : List Byte) (l : Nat) : Bool := field bytes (1 + l) 2 == (crc16 (bytes.take (1 + l))).toNat

/-- The request a host half carries (R178). -/
def Request.parse (bytes : List Byte) (l : Nat) : Request :=
  { ticket := BitVec.ofNat 8 (field bytes 1 1), kind := BitVec.ofNat 8 (field bytes 2 1)
    body := (bytes.drop 3).take (l - 2) }

/-- A request frame with a right check is accepted or dropped (R171). -/
def State.accept (s : State) (r : Request) : State :=
  if s.hasRoom then { s with requests := s.requests ++ [r] }.outcome .taken else s.outcome .full

/-- A host half that is neither empty nor a link reset (R170), judged by the device state at the frame's end (log 38). -/
def State.judgeRequest (s : State) (bytes : List Byte) (l : Nat) : State :=
  if s.device == .starting then s.outcome .notReady
  else if l < 2 || 61 < l || bytes.length < 1 + l + 2 then s.outcome .badLength
  else if hostCheckOk bytes l then s.accept (Request.parse bytes l)
  else s.outcome .badCheck

/-- A release whose reservation a link reset has removed (R174). -/
def Binding.dropReservation (bd : Binding) : Binding :=
  { bd with commit := { bd.commit with release := bd.commit.release.map fun x => { x with reserved := false } } }

/-- A link reset removes the reservation of every long request in progress (R174). -/
def State.dropReservations (s : State) : State :=
  { (s.mapBays fun _ r => { r with phase := r.phase.mapBinding Binding.dropReservation }) with
    waiters := s.waiters.map fun w => { w with reserved := false }
    run := s.run.map fun r => { r with reserved := false } }

/-- A frame whose item a link reset has removed (R174). -/
def Frame.withdrawn (f : Frame) : Frame := { f with toDeliver := false }

/-- LINK_RESET (R167, R174): both queues are emptied, the frame's item and every reservation are removed, and the levels
in service return to offerable; a RESTART reply removed so begins the cold start (R189). -/
def State.linkReset (s : State) : State :=
  if s.device == .starting then s.outcome .notReady
  else
    let emptied :=
      { s with requests := [], replies := [], frame := s.frame.map Frame.withdrawn }
    let restored := emptied.dropReservations.restoreService.outcome .taken
    if s.replies.any Reply.endsPart then coldStart restored else restored

/-! ### The commands -/

/-- FRAME_START. -/
def execFrameStart (s : State) : Host.Outcome State Fault Refusal := .next s.frameStart

/-- ITEM_DELIVERY. -/
def execItemDelivery (clocked : Nat) (s : State) : Host.Outcome State Fault Refusal := .next (s.endFrame clocked)

/-- EMPTY_FRAME: no action, link status NONE (R170). -/
def execEmptyFrame (s : State) : Host.Outcome State Fault Refusal := .next (s.outcome .none)

/-- LINK_RESET. -/
def execLinkReset (s : State) : Host.Outcome State Fault Refusal := .next s.linkReset

/-- REQUEST_FRAME. Bytes that spell an empty frame or a link reset are taken as what they spell (log 5). -/
def execRequestFrame (bytes : List Byte) (s : State) : Host.Outcome State Fault Refusal :=
  .next <|
    match bytes with
    | [] => s.outcome .none
    | l :: _ =>
      if l = 0 then s.outcome .none else if l = 0xFF then s.linkReset else s.judgeRequest bytes l.toNat

end Sys2Proof.Machine
end

