-- ==== Sys2Proof/Machine/Metering.lean ====
section
/-! DEFINITION. The metering requests: TALLY, PURGE_REPORT and RETURN_REPORT (R79 to R94). -/

namespace Sys2Proof.Machine

/-! ### Which bays take a report (R79) -/

/-- How a tally entry or purge is handled (R79); the codes are those of the PURGE_REPORT reply (R179). -/
inductive Handling where
  | charged
  | drawnOnly
  | dropped
  deriving DecidableEq, Repr

/-- The code of a handling in a PURGE_REPORT reply (R179). -/
def Handling.code : Handling → Nat
  | .charged => 0
  | .drawnOnly => 1
  | .dropped => 2

/-- How a bay in a state takes a report, under a reject mode (R79). -/
def Phase.handling (m : RejectMode) : Phase → Handling
  | .active _ => .charged
  | .rejected _ _ => match m with
    | .allow => .drawnOnly
    | .inhibit => .dropped
  | .off => .dropped
  | .vacant => .dropped
  | .seated => .dropped
  | .identifying => .dropped
  | .released _ => .dropped

/-- How a bay takes a report now (R79). -/
def State.handling (s : State) (b : Bay) : Handling := (s.bay b).phase.handling s.policy.rejectMode

/-- A contribution taken in: drawn and swath grow, and in ACTIVE it enters the carry (R81, R83, R84). -/
def Phase.takeIn (c : Nat) : Phase → Phase
  | .active bd => .active (bd.charge c)
  | .rejected reason d => .rejected reason (d.grow c)
  | .off => .off
  | .vacant => .vacant
  | .seated => .seated
  | .identifying => .identifying
  | .released bd => .released bd

/-- The remainder left by a tally entry (R81). -/
def Phase.setRemainder (x : Nat) : Phase → Phase
  | .active bd => .active { bd with draw := { bd.draw with remainder := x } }
  | .rejected reason d => .rejected reason { d with remainder := x }
  | .off => .off
  | .vacant => .vacant
  | .seated => .seated
  | .identifying => .identifying
  | .released bd => .released bd

/-- The remainder a bay holds. -/
def Phase.remainder (p : Phase) : Nat := (p.draw?.map (·.remainder)).getD 0

/-- A report that a bay drops latches UNCHARGED (R80). -/
def State.dropReport (s : State) (b : Bay) : State := s.latch (baySite b) .uncharged

/-! ### TALLY -/

/-- A tally entry's contribution to a bay, and the remainder it leaves (R81). -/
def State.entryContribution (s : State) (b : Bay) (e : TallyEntry) : Nat × Nat :=
  contribution e.count (s.bayCfg b).vol[e.dropClass] (s.bayCfg b).scale (s.bay b).phase.remainder

/-- A tally entry for a bay (R79, R80, R81). -/
def State.tallyBay (s : State) (b : Bay) (e : TallyEntry) : State :=
  match s.handling b with
  | .dropped => s.dropReport b
  | .charged => s.modBay b fun r =>
      { r with
        phase := (r.phase.takeIn (s.entryContribution b e).1).setRemainder (s.entryContribution b e).2 }
  | .drawnOnly => s.modBay b fun r =>
      { r with
        phase := (r.phase.takeIn (s.entryContribution b e).1).setRemainder (s.entryContribution b e).2 }

/-- A tally entry; one that names bay 12..15 is skipped (R82). -/
def State.tallyEntry (s : State) (e : TallyEntry) : State :=
  match bayOf? e.bay with
  | some b => s.tallyBay b e
  | none => s

/-- The number of entries skipped (R82). -/
def skippedCount (entries : List TallyEntry) : Nat := (entries.filter fun e => (bayOf? e.bay).isNone).length

/-- Whether an entry is dropped (R80). -/
def State.dropsEntry (s : State) (e : TallyEntry) : Bool :=
  match bayOf? e.bay with
  | some b => s.handling b == .dropped
  | none => false

/-- The number of entries dropped (R82): no entry changes which bays take a report. -/
def State.droppedCount (s : State) (entries : List TallyEntry) : Nat := (entries.filter s.dropsEntry).length

/-- The capture of a swath end in a bay state (R92). -/
def Phase.capture : Phase → Phase
  | .active bd => .active { bd with draw := bd.draw.capture }
  | .released bd => .released { bd with draw := bd.draw.capture }
  | .rejected reason d => .rejected reason d.capture
  | .off => .off
  | .vacant => .vacant
  | .seated => .seated
  | .identifying => .identifying

/-- A staged pair of an ACTIVE bay becomes active (R122). -/
def BayRec.activateStaged (r : BayRec) : BayRec :=
  match r.phase.active? with
  | some _ => { r with thresholds := r.staged.getD r.thresholds, staged := none }
  | none => r

/-- A swath end at one bay: the capture, then the armed line, then the staged pair (R92, R131). -/
def BayRec.swathEnd (r : BayRec) : BayRec :=
  BayRec.activateStaged { r with phase := r.phase.capture, line := r.line.atSwathEnd }

/-- A swath end (R92, R93, R131 steps 1 and 2). -/
def State.swathEnd (s : State) : State := s.mapBays fun _ r => r.swathEnd

/-- Figures are handed on for the bays chosen, in ascending order (R94, log 14). -/
def State.handOnAll (s : State) (chosen : Bay → Bool) : State :=
  allBays.foldl (fun t b => if chosen b then t.handOn b else t) s

/-- The entries of a TALLY, applied in list order (R82). -/
def State.applyEntries (s : State) (entries : List TallyEntry) : State := entries.foldl State.tallyEntry s

/-- A TALLY's whole action on the part: its entries, its swath end, its hand-on, and the arbiters (R82, R93, R94). The
hand-on covers the bays whose figures the entries changed, and every ACTIVE bay at a swath end. -/
def State.applyTally (s : State) (body : TallyBody) : State :=
  let applied := s.applyEntries body.entries
  let ended := if body.swathEnd then applied.swathEnd else applied
  (ended.handOnAll fun b => body.swathEnd || (applied.bay b).phase != (s.bay b).phase).runArbiters

/-- TALLY (R82). -/
def execTally (s : State) : Host.Outcome State Fault Refusal :=
  .next <| s.take .tally fun r t =>
    match TallyBody.parse r.body with
    | none => t.reply r .badArg []
    | some body =>
      (t.applyTally body).reply r (if skippedCount body.entries = 0 then .ok else .partially)
        (toBytes 1 (skippedCount body.entries) ++ toBytes 1 (t.droppedCount body.entries))

/-! ### PURGE_REPORT -/

/-- A purge of a bay that takes it (R83), handed on when it changed a figure (R94). -/
def State.takePurge (s : State) (b : Bay) (ms : Nat) : State :=
  let c := purgeContribution ms (s.bayCfg b).purgeRate
  let taken := s.modBay b fun r => { r with phase := r.phase.takeIn c }
  (taken.handOnAll fun x => x == b && (taken.bay b).phase != (s.bay b).phase).runArbiters

/-- A purge report for a bay (R80, R83). -/
def State.applyPurge (s : State) (b : Bay) (ms : Nat) : State :=
  match s.handling b with
  | .dropped => s.dropReport b
  | .charged => s.takePurge b ms
  | .drawnOnly => s.takePurge b ms

/-- PURGE_REPORT (R83). -/
def execPurgeReport (s : State) : Host.Outcome State Fault Refusal :=
  .next <| s.take .purgeReport fun r t =>
    t.withBay r fun b => (t.applyPurge b (r.wordAt 1)).reply r .ok (toBytes 1 (t.handling b).code)

/-! ### RETURN_REPORT -/

/-- The credit of a return, in fL (R87). -/
def returnCredit (nl : Nat) : Nat := clamp 1 1000000 nl * 10 ^ 6

/-- A credit applied to an ACTIVE bay: a queued request that it leaves without ink is withdrawn, and changed figures are
handed on (R88, R94, R103). -/
def State.applyReturn (s : State) (b : Bay) (bd : Binding) (x : Nat) : State :=
  let credited := s.modBinding b fun bd => { bd with acct := (bd.acct.credit x).1 }
  let withdrawn := credited.withdraw b
  (withdrawn.handOnAll fun c => c == b && (bd.acct.credit x).1 != bd.acct).runArbiters

/-- RETURN_REPORT (R87). -/
def execReturnReport (s : State) : Host.Outcome State Fault Refusal :=
  .next <| s.take .returnReport fun r t =>
    t.withBay r fun b =>
      match (t.bay b).phase.active? with
      | none => t.reply r .bayState []
      | some bd =>
        let x := returnCredit (field r.body 1 3)
        let applied := (bd.acct.credit x).2
        (t.applyReturn b bd x).reply r .ok (toBytes 7 applied ++ toBytes 7 (x - applied))

end Sys2Proof.Machine
end

