-- ==== Sys2Proof/Machine/PolicyCmds.lean ====
section
/-! DEFINITION. The policy requests (R190). -/

namespace Sys2Proof.Machine

/-- A change of the policy: POLICY is dirty, the writer is triggered, and every permit line is evaluated (R126, R190). -/
def State.policyChanged (s : State) (p : Policy) : State :=
  (State.trigger (State.markDirty { s with policy := p } .policy)).evalLines

/-- The policy a POLICY_SET gives (R190). -/
def Policy.replaced (p : Policy) (allowed : Byte) (rm : RejectMode) (fm om : PermitMode) : Policy :=
  { p with allowed := allowed, rejectMode := rm, refillMode := fm, outMode := om }

/-- The body of a POLICY_SET reply (R179). -/
def Policy.body (p : Policy) : List Byte := [p.byte, p.allowed]

/-- POLICY_SET (R190): a mode outside its list is refused first, then a sealed policy. -/
def execPolicySet (s : State) : Host.Outcome State Fault Refusal :=
  .next <| s.take .policySet fun r t =>
    match rejectModeOf? (r.byteAt 1), permitModeOf? (r.byteAt 2), permitModeOf? (r.byteAt 3) with
    | some rm, some fm, some om =>
      if t.policy.isSealed then t.reply r .isSealed []
      else
        let p := t.policy.replaced (BitVec.ofNat 8 (r.byteAt 0)) rm fm om
        (t.policyChanged p).reply r .ok p.body
    | _, _, _ => t.reply r .badArg []

/-- The revoked mark of a slot is set, when the policy is sealed (R190). -/
def State.markRevoked (s : State) (slots : Byte) : State :=
  if s.policy.isSealed then { s with oneWay := { s.oneWay with revoked := s.oneWay.revoked ||| slots } } else s

/-- KEY_REVOKE's action (R190): an index already outside the set changes no policy. -/
def State.revokeKey (s : State) (k : KeySlot) : State :=
  let bit : Byte := BitVec.ofNat 8 (2 ^ k.val)
  let marked := s.markRevoked bit
  if s.policy.allowed.getLsbD k.val then
    marked.policyChanged { marked.policy with allowed := marked.policy.allowed &&& ~~~bit }
  else marked

/-- KEY_REVOKE (R190). -/
def execKeyRevoke (s : State) : Host.Outcome State Fault Refusal :=
  .next <| s.take .keyRevoke fun r t =>
    match keySlotOf? (r.byteAt 0) with
    | some k => (t.revokeKey k).reply r .ok [(t.revokeKey k).policy.allowed]
    | none => t.reply r .badArg []

/-- SEAL's action: the seal mark, the revoked mark of every slot outside the allowed key set, and the sealed flag
(R190). -/
def State.sealPolicy (s : State) : State :=
  State.policyChanged
    { s with oneWay := { sealMark := true, revoked := s.oneWay.revoked ||| ~~~s.policy.allowed } }
    { s.policy with isSealed := true }

/-- SEAL (R190). -/
def execSeal (s : State) : Host.Outcome State Fault Refusal :=
  .next <| s.take .seal fun r t =>
    if t.policy.isSealed then t.reply r .isSealed [] else t.sealPolicy.reply r .ok []

end Sys2Proof.Machine
end

