-- ==== Sys2Proof/Machine/Queries.lean ====
section
/-! DEFINITION. The four query requests (R20, R74, R96, R176): each replies with the state as it stands at the take. -/

namespace Sys2Proof.Machine

/-- STATUS_GET (R176). Its reservation counts as released; its own reply is not yet placed, in the count of placed replies
and in the attention line (log 40). -/
def execStatusGet (s : State) : Host.Outcome State Fault Refusal :=
  .next <| s.take .statusGet fun r t => t.reply r .ok t.statusBody

/-- BAY_GET (R20). -/
def execBayGet (s : State) : Host.Outcome State Fault Refusal :=
  .next <| s.take .bayGet fun r t => t.withBay r fun b => t.reply r .ok (t.bayBody b)

/-- The page a METER_GET body asks for: 0 when it names none (R177). -/
def Request.page (r : Request) : Nat := if r.body.length = 1 then 0 else r.byteAt 1

/-- METER_GET (R96, R177). -/
def execMeterGet (s : State) : Host.Outcome State Fault Refusal :=
  .next <| s.take .meterGet fun r t =>
    t.withBay r fun b => if r.page ≤ 1 then t.reply r .ok (t.meterBody b r.page) else t.reply r .badArg []

/-- TABLE_GET (R74). -/
def execTableGet (s : State) : Host.Outcome State Fault Refusal :=
  .next <| s.take .tableGet fun r t =>
    if r.byteAt 0 ≤ 31 then t.reply r .ok (t.tableBody (r.byteAt 0)) else t.reply r .badArg []

end Sys2Proof.Machine
end

