-- ==== Sys2Proof/Machine/SettingsCmds.lean ====
section
/-! DEFINITION. The requests that write SETTINGS (R6, R78, R99, R121, R143, R151, R158, R159). -/

namespace Sys2Proof.Machine

/-! ### DROPS_SET, COMMIT_SET, SLOT_SET -/

/-- The drop settings a DROPS_SET body gives, clamped (R78). -/
def BaySettings.withDrops (c : BaySettings) (r : Request) : BaySettings :=
  { c with
    vol := #v[r.wordAt 1, r.wordAt 3, r.wordAt 5, r.wordAt 7]
    scale := clamp 768 1280 (r.wordAt 9), purgeRate := clamp 0 4095 (r.wordAt 11) }

/-- The six drop settings as stored (R78, R179). -/
def BaySettings.dropsBody (c : BaySettings) : List Byte :=
  toBytes 2 c.vol[0] ++ toBytes 2 c.vol[1] ++ toBytes 2 c.vol[2] ++ toBytes 2 c.vol[3] ++
    toBytes 2 c.scale ++ toBytes 2 c.purgeRate

/-- DROPS_SET (R78). -/
def execDropsSet (s : State) : Host.Outcome State Fault Refusal :=
  .next <| s.take .dropsSet fun r t => t.withBay r fun b =>
    (t.modBayCfg b fun c => c.withDrops r).settingsChanged.reply r .ok ((t.bayCfg b).withDrops r).dropsBody

/-- COMMIT_SET (R99): the triggers of an ACTIVE bay are evaluated with the new step. -/
def execCommitSet (s : State) : Host.Outcome State Fault Refusal :=
  .next <| s.take .commitSet fun r t => t.withBay r fun b =>
    let step := clamp 1 64 (r.byteAt 1)
    let stored := (t.modBayCfg b fun c => { c with commitStep := step }).settingsChanged
    (stored.evalStep b).runArbiters.reply r .ok (toBytes 1 step)

/-- SLOT_SET (R6). -/
def execSlotSet (s : State) : Host.Outcome State Fault Refusal :=
  .next <| s.take .slotSet fun r t => t.withBay r fun b =>
    (t.modBayCfg b fun c => { c with slotCode := BitVec.ofNat 16 (r.wordAt 1) }).settingsChanged.reply r .ok []

/-! ### LEVELS_SET -/

/-- The threshold pair of a request: each clamped, then out_pm at most low_pm (R121). -/
def Thresholds.ofRequest (low out : Nat) : Thresholds :=
  { low := clamp 0 1000 low, out := min (clamp 0 1000 low) (clamp 0 1000 out) }

/-- A pair is placed at a bay: staged in ACTIVE, active at once otherwise, where a RELEASED bay recomputes its ink state,
which lowers the level seen where it is less severe (R101, R121, R124). -/
def BayRec.placePair (t : Thresholds) (r : BayRec) : BayRec :=
  match r.phase with
  | .active _ => { r with staged := some t }
  | .released bd =>
    { r with thresholds := t, phase := .released (bd.setInk (inkOf t bd.capacity bd.remaining)) }
  | .off => { r with thresholds := t }
  | .vacant => { r with thresholds := t }
  | .seated => { r with thresholds := t }
  | .identifying => { r with thresholds := t }
  | .rejected _ _ => { r with thresholds := t }

/-- The body of a LEVELS_SET reply: the active pair, the staged pair, and whether the pair just set was staged (R121,
R179). -/
def BayRec.levelsBody (r : BayRec) : List Byte :=
  toBytes 2 r.thresholds.low ++ toBytes 2 r.thresholds.out ++ wordOrAbsent (r.staged.map (·.low)) ++
    wordOrAbsent (r.staged.map (·.out)) ++ [flagByte r.phase.active?.isSome]

/-- LEVELS_SET (R121). -/
def execLevelsSet (s : State) : Host.Outcome State Fault Refusal :=
  .next <| s.take .levelsSet fun r t => t.withBay r fun b =>
    let pair := Thresholds.ofRequest (r.wordAt 1) (r.wordAt 3)
    let placed := ((t.modBay b fun x => x.placePair pair).modBayCfg b fun c => { c with stored := pair }).evalLine b
    placed.settingsChanged.reply r .ok ((t.bay b).placePair pair).levelsBody

/-! ### SENSE_SET -/

/-- The calibration a SENSE_SET body gives, clamped (R143). -/
def Calib.ofRequest (r : Request) : Calib :=
  { empty := clamp 0 1023 (r.wordAt 1), full := clamp 0 1023 (r.wordAt 3), margin := clamp 20 500 (r.wordAt 5)
    persist := clamp 1 15 (r.byteAt 7), period := clamp 100 10000 (r.wordAt 8) }

/-- The body of a SENSE_SET reply (R143, R179). -/
def Calib.body (c : Calib) : List Byte :=
  toBytes 2 c.empty ++ toBytes 2 c.full ++ toBytes 2 c.margin ++ toBytes 1 c.persist ++ toBytes 2 c.period ++
    [flagByte c.valid]

/-- Whether a SENSE_SET makes the bay's survey wanted: the new calibration replaces a dropped reading or an invalid one,
or the survey timer already shows the new period (R140, R143). -/
def State.senseWants (s : State) (b : Bay) (c : Calib) : Bool :=
  s.isActive b &&
    ((c.valid && (s.converting b || !(s.bayCfg b).calib.valid)) ||
      match (s.bay b).surveyTimer with
      | some t => decide (c.period ≤ t)
      | none => false)

/-- A calibration is written (R143); an invalid one ends a waiting membership of the run (R153). -/
def State.setCalib (s : State) (b : Bay) (c : Calib) : State :=
  let wants := s.senseWants b c
  let written := (s.modBayCfg b fun x => { x with calib := c }).discardConversion b
  let reset := written.modBay b fun r => { r with counter := 0, wanted := r.wanted || wants }
  if c.valid then reset else State.passCheck { reset with run := reset.run.map fun x => x.skipMember b }

/-- SENSE_SET (R143). -/
def execSenseSet (s : State) : Host.Outcome State Fault Refusal :=
  .next <| s.take .senseSet fun r t => t.withBay r fun b =>
    let c := Calib.ofRequest r
    (t.setCalib b c).settingsChanged.settleConverter.reply r .ok c.body

/-! ### SUPPLY_SET, ROUTE_SET, MASK_SET -/

/-- SUPPLY_SET (R151). -/
def execSupplySet (s : State) : Host.Outcome State Fault Refusal :=
  .next <| s.take .supplySet fun r t =>
    let v := clamp 0 991 (r.wordAt 0)
    State.reply (State.settingsChanged { t with settings := { t.settings with holdRaw := v } }) r .ok (toBytes 2 v)

/-- ROUTE_SET (R158). -/
def execRouteSet (s : State) : Host.Outcome State Fault Refusal :=
  .next <| s.take .routeSet fun r t =>
    match kindOf? (r.byteAt 0), levelOf? (r.byteAt 1) with
    | some k, some lv =>
      State.reply
        (State.settingsChanged { t with settings := { t.settings with routing := put t.settings.routing k lv } })
        r .ok []
    | some _, none => t.reply r .badArg []
    | none, _ => t.reply r .badArg []

/-- MASK_SET (R159): the four low bits of each byte. -/
def execMaskSet (s : State) : Host.Outcome State Fault Refusal :=
  .next <| s.take .maskSet fun r t =>
    let lm := BitVec.ofNat 4 (r.byteAt 0)
    let wm := BitVec.ofNat 4 (r.byteAt 1)
    State.reply (State.settingsChanged { t with settings := { t.settings with levelMask := lm, wakeMask := wm } })
      r .ok (toBytes 1 lm.toNat ++ toBytes 1 wm.toNat)

end Sys2Proof.Machine
end

