-- ==== Sys2Proof/Machine/SystemCmds.lean ====
section
/-! DEFINITION. SURVEY_RUN, STORE_SAVE, RESTART, DOZE and NOTICE_DONE (R152, R163, R165, R187, R189). -/

namespace Sys2Proof.Machine

/-! ### SURVEY_RUN (R152) -/

/-- The number of passes a request asks for: 0 asks for one (R152). -/
def passesOf (n : Nat) : Nat := max 1 n

/-- The run record a SURVEY_RUN forms (R152). -/
def SurveyRun.formed (listed : BaySet) (passes : Nat) (ticket : Byte) : SurveyRun :=
  { listed := listed, passesLeft := passes, passesRun := 0, members := Vector.replicate 12 none
    skipped := Vector.replicate 12 false, results := Vector.replicate 12 none, ticket := ticket, reserved := true }

/-- SURVEY_RUN (R152, R153). -/
def execSurveyRun (s : State) : Host.Outcome State Fault Refusal :=
  .next <| s.take .surveyRun fun r t =>
    match t.run with
    | some _ => t.reply r .busy []
    | none =>
      let run := SurveyRun.formed (baySetOf (r.wordAt 0)) (passesOf (r.byteAt 2)) r.ticket
      (State.startPasses run.passesLeft { t with run := some run }).settleConverter

/-! ### STORE_SAVE and RESTART (R187, R189) -/

/-- A request that waits for the end of a walk. -/
def State.await (s : State) (r : Request) (isRestart : Bool) : State :=
  { s with waiters := s.waiters ++ [{ isRestart := isRestart, ticket := r.ticket, reserved := true }] }

/-- STORE_SAVE (R187): the triggers are evaluated, then the writer is triggered. -/
def execStoreSave (s : State) : Host.Outcome State Fault Refusal :=
  .next <| s.take .storeSave fun r t => ((t.evalForSave.await r false).trigger).runArbiters

/-- The save a RESTART performs (R189 steps 1 to 4). -/
def State.restartSave (s : State) (r : Request) : State :=
  let evaluated := State.evalForSave { s with restarting := true }
  let shadowed := evaluated.shadowAll.markDirty .table
  State.trigger (State.await { shadowed with save := if shadowed.save == .saved then .saved else .saving } r true)

/-- RESTART (R189). -/
def execRestart (s : State) : Host.Outcome State Fault Refusal :=
  .next <| s.take .restart fun r t =>
    if t.device == .faulted then t.reply r .ok []
    else if t.restarting then t.reply r .busy []
    else (t.restartSave r).runArbiters

/-! ### DOZE and NOTICE_DONE (R163, R165) -/

/-- DOZE (R165): the link enters doze at the delivery of this reply. -/
def execDoze (s : State) : Host.Outcome State Fault Refusal := .next <| s.take .doze fun r t => t.reply r .ok []

/-- NOTICE_DONE (R163). -/
def execNoticeDone (s : State) : Host.Outcome State Fault Refusal :=
  .next <| s.take .noticeDone fun r t =>
    match levelOf? (r.byteAt 0) with
    | none => t.reply r .badArg []
    | some lv =>
      if t.inService lv then State.reply { t with service := put t.service lv none } r .ok []
      else t.reply r .bayState []

end Sys2Proof.Machine
end

