-- ==== Sys2Proof/Machine/Dispatch.lean ====
section
/-! DEFINITION. One arm per command: each calls that command's meaning. -/

namespace Sys2Proof.Machine

/-- The effect of a command on everything but the queue. -/
def exec (i : Instr) (s : State) : Host.Outcome State Fault Refusal :=
  match i with
  | .frameStart => Sys2Proof.Machine.execFrameStart s
  | .itemDelivery clocked => Sys2Proof.Machine.execItemDelivery clocked s
  | .emptyFrame => Sys2Proof.Machine.execEmptyFrame s
  | .linkReset => Sys2Proof.Machine.execLinkReset s
  | .requestFrame bytes => Sys2Proof.Machine.execRequestFrame bytes s
  | .unknownKind => Sys2Proof.Machine.execUnknownKind s
  | .statusGet => Sys2Proof.Machine.execStatusGet s
  | .bayGet => Sys2Proof.Machine.execBayGet s
  | .meterGet => Sys2Proof.Machine.execMeterGet s
  | .tableGet => Sys2Proof.Machine.execTableGet s
  | .tally => Sys2Proof.Machine.execTally s
  | .purgeReport => Sys2Proof.Machine.execPurgeReport s
  | .returnReport => Sys2Proof.Machine.execReturnReport s
  | .dropsSet => Sys2Proof.Machine.execDropsSet s
  | .levelsSet => Sys2Proof.Machine.execLevelsSet s
  | .senseSet => Sys2Proof.Machine.execSenseSet s
  | .commitSet => Sys2Proof.Machine.execCommitSet s
  | .slotSet => Sys2Proof.Machine.execSlotSet s
  | .supplySet => Sys2Proof.Machine.execSupplySet s
  | .routeSet => Sys2Proof.Machine.execRouteSet s
  | .maskSet => Sys2Proof.Machine.execMaskSet s
  | .policySet => Sys2Proof.Machine.execPolicySet s
  | .keyRevoke => Sys2Proof.Machine.execKeyRevoke s
  | .seal => Sys2Proof.Machine.execSeal s
  | .bayRecheck => Sys2Proof.Machine.execBayRecheck s
  | .bayRelease => Sys2Proof.Machine.execBayRelease s
  | .bayDisable => Sys2Proof.Machine.execBayDisable s
  | .bayEnable => Sys2Proof.Machine.execBayEnable s
  | .commitRetry => Sys2Proof.Machine.execCommitRetry s
  | .surveyRun => Sys2Proof.Machine.execSurveyRun s
  | .storeSave => Sys2Proof.Machine.execStoreSave s
  | .restart => Sys2Proof.Machine.execRestart s
  | .doze => Sys2Proof.Machine.execDoze s
  | .noticeDone => Sys2Proof.Machine.execNoticeDone s
  | .rawPresenceChange bay level => Sys2Proof.Machine.execRawPresenceChange bay level s
  | .presenceWindowExpiry bay => Sys2Proof.Machine.execPresenceWindowExpiry bay s
  | .tagReply lane bytes => Sys2Proof.Machine.execTagReply lane bytes s
  | .replyTimerExpiry lane => Sys2Proof.Machine.execReplyTimerExpiry lane s
  | .holdLimitExpiry bay => Sys2Proof.Machine.execHoldLimitExpiry bay s
  | .surveyTimerExpiry bay => Sys2Proof.Machine.execSurveyTimerExpiry bay s
  | .supplyTimerExpiry lane => Sys2Proof.Machine.execSupplyTimerExpiry lane s
  | .conversionComplete raw => Sys2Proof.Machine.execConversionComplete raw s
  | .storeWriteComplete success => Sys2Proof.Machine.execStoreWriteComplete success s
  | .pfailAssert => Sys2Proof.Machine.execPfailAssert s
  | .pfailDeassert => Sys2Proof.Machine.execPfailDeassert s
  | .powerOn => Sys2Proof.Machine.execPowerOn s
  | .resetPin => Sys2Proof.Machine.execResetPin s
  | .loadCompletion answered policyDamaged settingsDamaged tableDamaged => Sys2Proof.Machine.execLoadCompletion answered policyDamaged settingsDamaged tableDamaged s
  | .laneCommandEnd lane => Sys2Proof.Machine.execLaneCommandEnd lane s

end Sys2Proof.Machine
end

