-- ==== Sys2Proof/Safety.lean ====
section
/-! DEFINITION. What the claims are made of: the invariants of the part, and the words the statements about one command
share. -/

namespace Sys2Proof.Machine

/-! ### Permit lines (R127, R128) -/

/-- A line that allows is that of an ACTIVE bay, or of a REJECTED bay under reject mode ALLOW, while the device is RUNNING
(R127). -/
def PermitSafe (s : State) : Prop :=
  ∀ b : Bay, (s.bay b).line.allows = true →
    s.device = .running ∧
      ((∃ bd, (s.bay b).phase = .active bd) ∨
        ∃ reason d, (s.bay b).phase = .rejected reason d ∧ s.policy.rejectMode = .allow)

/-! ### Accounts (R75, R91, R98) -/

/-- A binding's figures are in their ranges, and its account balances while the ceiling flag is clear (R75, R91). -/
def Binding.Balanced (bd : Binding) : Prop :=
  bd.acct.inflight ≤ bd.acct.pending ∧ bd.acct.fine < tuInFl ∧ bd.acct.committed + bd.acct.pending ≤ maxTu ∧
    (bd.acct.ceiling = false →
      tuInFl * (bd.acct.charged + bd.acct.pending) + bd.acct.fine + bd.acct.credited =
        tuInFl * bd.acct.carried + bd.draw.drawn)

/-- Ink is in flight only in IN_FLIGHT, RECONCILING and UNCERTAIN (R98). -/
def Binding.FlightOk (bd : Binding) : Prop := bd.commit.state.target? = none → bd.acct.inflight = 0

/-- Every bound bay's account is in order (R91, R98). -/
def AccountsBalanced (s : State) : Prop :=
  ∀ (b : Bay) (bd : Binding), (s.bay b).phase.binding? = some bd → bd.Balanced ∧ bd.FlightOk

/-! ### Queues (R171) -/

/-- The request queue holds at most 4 requests, and placed replies and reservations number at most 8 (R171). -/
def QueuesBounded (s : State) : Prop := s.requests.length ≤ 4 ∧ s.replies.length + s.reservations ≤ 8

/-! ### The table and the bindings (R62) -/

/-- The table has at most 32 entries and no serial twice (R62). -/
def TableShaped (t : List Entry) : Prop := t.length ≤ 32 ∧ (t.map (·.serial)).Nodup

/-- An entry that names a bay is that of the bay's cartridge (R62). -/
def EntriesNameBindings (s : State) : Prop :=
  ∀ e ∈ s.table, ∀ b, e.bay = some b → ∃ bd, (s.bay b).phase.binding? = some bd ∧ bd.serial = e.serial

/-- A bound bay's serial has an entry that names the bay (R62). -/
def BindingsHaveEntries (s : State) : Prop :=
  ∀ b bd, (s.bay b).phase.binding? = some bd → ∃ e ∈ s.table, e.bay = some b ∧ e.serial = bd.serial

/-- A bay that waits for an IDENTIFY, or whose IDENTIFY runs and is not abandoned, is not bound (R10, R17, R24). -/
def IdentifiesUnbound (s : State) : Prop :=
  (∀ b, (s.bay b).slot = some .identify → (s.bay b).phase.binding? = none) ∧
    ∀ l r, (s.lane l).running = some r → r.op = .identify → r.abandoned = false →
      (s.bay (bayAt l r.position)).phase.binding? = none

/-- Outside RUNNING every bay is OFF with an empty slot and every lane is IDLE, and in STARTING no request waits (R9, R40,
R175). -/
def QuietUnlessRunning (s : State) : Prop :=
  (s.device ≠ .running →
      (∀ b, (s.bay b).phase = .off ∧ (s.bay b).slot = none) ∧ ∀ l, (s.lane l).running = none) ∧
    (s.device = .starting → s.requests = [])

/-- A lane sends READ_RECORD for an IDENTIFY alone (R34, R35). -/
def RecordReadsIdentify (s : State) : Prop :=
  ∀ l r, (s.lane l).running = some r → r.step = .readRecord → r.op = .identify

/-- The table and the bindings agree (R62). -/
def TableConsistent (s : State) : Prop :=
  TableShaped s.table ∧ EntriesNameBindings s ∧ BindingsHaveEntries s ∧ IdentifiesUnbound s ∧ RecordReadsIdentify s ∧
    QuietUnlessRunning s

/-! ### The one-way area (R184, R190) -/

/-- The one-way marks of one state are set in another. -/
def OneWay.LeadsTo (a b : OneWay) : Prop := (a.sealMark = true → b.sealMark = true) ∧ a.revoked &&& ~~~b.revoked = 0

/-- Once the load has ended, the seal mark keeps the policy sealed (R184, R190). -/
def SealHolds (s : State) : Prop := s.device ≠ .starting → s.oneWay.sealMark = true → s.policy.isSealed = true

/-! ### Requests at their take (R172) -/

/-- The command that takes a request of a kind (R172). -/
def ReqKind.takes : ReqKind → Instr
  | .statusGet => .statusGet
  | .bayGet => .bayGet
  | .meterGet => .meterGet
  | .tableGet => .tableGet
  | .tally => .tally
  | .purgeReport => .purgeReport
  | .returnReport => .returnReport
  | .dropsSet => .dropsSet
  | .levelsSet => .levelsSet
  | .senseSet => .senseSet
  | .commitSet => .commitSet
  | .slotSet => .slotSet
  | .supplySet => .supplySet
  | .routeSet => .routeSet
  | .maskSet => .maskSet
  | .policySet => .policySet
  | .keyRevoke => .keyRevoke
  | .seal => .seal
  | .bayRecheck => .bayRecheck
  | .bayRelease => .bayRelease
  | .bayDisable => .bayDisable
  | .bayEnable => .bayEnable
  | .commitRetry => .commitRetry
  | .surveyRun => .surveyRun
  | .storeSave => .storeSave
  | .restart => .restart
  | .doze => .doze
  | .noticeDone => .noticeDone

/-- In RUNNING, the request at the head of the request queue is `r`, of kind `k`; `rest` waits behind it. -/
abbrev Taking (s : State) (k : ReqKind) (r : Request) (rest : List Request) : Prop :=
  s.device = .running ∧ s.requests = r :: rest ∧ r.kind = k.code

/-- The state once the head request has left the request queue. -/
def State.dequeued (s : State) (rest : List Request) : State := { s with requests := rest }

/-- The reply to a request. -/
def Request.answer (r : Request) (res : Result) (body : List Byte) : Reply :=
  { ticket := r.ticket, kind := r.kind, result := res, body := body }

/-- A request that ends at its take with this reply alone: nothing else changes. -/
def State.answered (s : State) (rest : List Request) (reply : Reply) : State :=
  { s with requests := rest, replies := s.replies ++ [reply] }

/-! ### Frames -/

/-- The commands that a load or a cold start can follow, or that remove the outbound frame: deliveries, link resets, power
on, reset, load completions, and those that can end a walk of the store writer on which a RESTART waits (R185, R189). -/
def MayRestart (c : Instr) : Prop :=
  c = .powerOn ∨ c = .resetPin ∨ c = .linkReset ∨ c = .storeSave ∨ (∃ n, c = .itemDelivery n) ∨
    (∃ ok, c = .storeWriteComplete ok) ∨ (∃ a p q d, c = .loadCompletion a p q d) ∨
    ∃ tail, c = .requestFrame (0xFF :: tail)

/-- The frames that carry a link reset (R174). -/
def ResetsLink (c : Instr) : Prop := c = .linkReset ∨ ∃ tail, c = .requestFrame (0xFF :: tail)

/-- The commands that write SETTINGS (R184). -/
def WritesSettings (c : Instr) : Prop :=
  c = .dropsSet ∨ c = .levelsSet ∨ c = .senseSet ∨ c = .commitSet ∨ c = .slotSet ∨ c = .supplySet ∨ c = .routeSet ∨
    c = .maskSet ∨ c = .bayDisable ∨ c = .bayEnable

/-- `t` differs from `s` at most in what arbiters touch: bays, lanes, converter, run, random source, and the table and
writer, which a launch during the save writes (R69). -/
def ArbiterFrame (s t : State) : Prop :=
  t = { s with
        bays := t.bays, lanes := t.lanes, converter := t.converter, run := t.run, nonceDraws := t.nonceDraws
        table := t.table, writer := t.writer }

/-- `t` differs from `s` at most in what metering touches: beside the arbiters' part, latches, replies and the queue. -/
def MeteringFrame (s t : State) : Prop :=
  t = { s with
        bays := t.bays, lanes := t.lanes, converter := t.converter, run := t.run, nonceDraws := t.nonceDraws
        table := t.table, writer := t.writer, latches := t.latches, replies := t.replies, requests := t.requests }

/-- A bay record that differs from another at most in its survey schedule: due time, wanted flag and survey timer
(R139). -/
def SameButSchedule (x y : BayRec) : Prop := y = { x with wanted := y.wanted, surveyTimer := y.surveyTimer, due := y.due }

/-- Every bay but `b` is as it was, but for its survey schedule. -/
def OthersKept (s t : State) (b : Bay) : Prop := ∀ j, j ≠ b → SameButSchedule (s.bay j) (t.bay j)

/-- The serial, product code, capacity, key index, evidence and draw figures of a binding, and its account less the
flight: what a launch leaves (R104). -/
def Binding.unlaunched (bd : Binding) : Binding :=
  { bd with acct := { bd.acct with inflight := 0 }, commit := { bd.commit with state := .idle } }

/-- A bay's record before and after arbiters ran: a lane may have started its request, so that SEATED became IDENTIFYING or
a commit was launched, and the converter may have taken its channel; all else is kept (R34, R104, R139). -/
def BayKeptByArbiters (x y : BayRec) : Prop :=
  y.filter = x.filter ∧ y.thresholds = x.thresholds ∧ y.staged = x.staged ∧ y.counter = x.counter ∧
    (y.slot = x.slot ∨ y.slot = none) ∧
    ((x.phase = .seated ∧ y.phase = .identifying) ∨
      (y.phase.mapBinding Binding.unlaunched = x.phase.mapBinding Binding.unlaunched ∧ y.line = x.line))

/-! ### The checks of 1.7, as remainders -/

/-- The bits of a word as a polynomial over two elements: bit i is the coefficient of the i-th power. -/
noncomputable def bitsPoly {n : Nat} (x : BitVec n) : Polynomial (ZMod 2) :=
  ∑ i : Fin n, if x.getLsbD i.val then Polynomial.X ^ i.val else 0

/-- The bits of a message as a polynomial, most significant byte and bit first. -/
noncomputable def messagePoly (bs : List Byte) : Polynomial (ZMod 2) :=
  bs.foldl (fun p b => p * Polynomial.X ^ 8 + bitsPoly b) 0

/-! ### The layouts of the query replies (R177, R182) -/

/-- The bytes at `start` to `start + n - 1` of a body. -/
def bytesAt (body : List Byte) (start n : Nat) : List Byte := (body.drop start).take n

/-- The bytes of a TABLE_GET body from byte 2 on, for an entry. -/
def Entry.layout (e : Entry) : List Byte :=
  toBytes 1 (1 + (if e.unsure = none then 0 else 2) + (if e.lastSensed = none then 0 else 4) +
      (if e.refilled = none then 0 else 8) + (if e.cloneSeen then 16 else 0) + if e.bay = none then 0 else 32) ++
    toBytes 8 e.serial.toNat ++ toBytes 2 e.product.toNat ++ toBytes 3 e.capacity ++ toBytes 3 e.high ++
    toBytes 3 e.owed ++
    (match e.unsure with
      | some u => toBytes 3 u.target ++ toBytes 3 u.amount
      | none => List.replicate 6 0) ++
    (match e.lastSensed with
      | some level => toBytes 2 level
      | none => [0xFF, 0xFF]) ++
    (match e.refilled with
      | some k => toBytes 1 k.code
      | none => [0xFF]) ++
    match e.bay with
    | some b => toBytes 1 b.val
    | none => [0xFF]

/-- The settings of a bay in METER_GET page 0, bytes 5 to 17. -/
def BaySettings.layout (c : BaySettings) : List Byte :=
  toBytes 2 c.vol[0] ++ toBytes 2 c.vol[1] ++ toBytes 2 c.vol[2] ++ toBytes 2 c.vol[3] ++ toBytes 2 c.scale ++
    toBytes 2 c.purgeRate ++ toBytes 1 c.commitStep

/-- METER_GET of a bay by its state: every byte of both pages, but for the ceiling flag of a bay that holds none. -/
def MeterLayout (s : State) (b : Bay) : Prop :=
  let cfg := (s.bayCfg b).layout
  (∀ page, page ≤ 1 →
    (s.meterBody b page).take 3 = toBytes 1 b.val ++ toBytes 1 (s.bay b).phase.code ++ toBytes 1 page) ∧
  (∀ bd, (s.bay b).phase.binding? = some bd →
    (s.meterBody b 0).drop 3 =
      [if bd.acct.ceiling then 5 else 1] ++ toBytes 1 bd.commit.state.code ++ cfg ++ toBytes 3 bd.acct.committed ++
        toBytes 3 bd.acct.inflight ++ toBytes 3 (bd.capacity - (bd.acct.committed + bd.acct.pending)) ++
        toBytes 3 (bd.acct.committed + bd.acct.pending - bd.capacity) ++ toBytes 2 bd.draw.remainder ++
        toBytes 12 bd.draw.swath ++ toBytes 12 bd.draw.lastSwath ∧
    (s.meterBody b 1).drop 3 =
      [if bd.acct.ceiling then 5 else 1] ++ toBytes 3 bd.acct.charged ++ toBytes 3 bd.acct.pending ++
        toBytes 3 bd.acct.carried ++ toBytes 5 bd.acct.fine ++ toBytes 12 bd.draw.drawn ++ toBytes 12 bd.acct.credited) ∧
  (∀ reason d, (s.bay b).phase = .rejected reason d →
    (∀ page, page ≤ 1 → (s.meterBody b page).getD 3 0 &&& 0xFB = 2) ∧
    (s.meterBody b 0).drop 4 =
      [0xFF] ++ cfg ++ List.replicate 12 0 ++ toBytes 2 d.remainder ++ toBytes 12 d.swath ++ toBytes 12 d.lastSwath ∧
    (s.meterBody b 1).drop 4 = List.replicate 14 0 ++ toBytes 12 d.drawn ++ List.replicate 12 0) ∧
  ((s.bay b).phase.binding? = none → (∀ reason d, (s.bay b).phase ≠ .rejected reason d) →
    (∀ page, page ≤ 1 → (s.meterBody b page).getD 3 0 &&& 0xFB = 0) ∧
    (s.meterBody b 0).drop 4 = [0xFF] ++ cfg ++ List.replicate 12 0 ++ [0xFF, 0xFF] ++ List.replicate 24 0 ∧
    (s.meterBody b 1).drop 4 = List.replicate 38 0)

/-- STATUS_GET, bytes 2 to 47, but for the bits that an IDLE lane and an IDLE converter have no value for. -/
def StatusLayout (s : State) : Prop :=
  let body := s.statusBody
  bytesAt body 2 1 =
    toBytes 1 ((if s.writer.dirty.table then 4 else 0) + (if s.writer.dirty.policy then 2 else 0) +
      (if s.writer.dirty.settings then 1 else 0) + 16 * (match s.writer.writing with
        | none => 0
        | some (.table _) => 1
        | some (.policy _) => 2
        | some (.settings _) => 3)) ∧
  (∀ k : KeySlot, (body.getD 3 0).getLsbD k.val = s.masterKeys[k].isSome) ∧
  bytesAt body 4 1 = [s.policy.allowed] ∧
  bytesAt body 5 1 =
    toBytes 1 ((if s.policy.isSealed then 1 else 0) + 2 * s.policy.rejectMode.code + 4 * s.policy.refillMode.code +
      16 * s.policy.outMode.code) ∧
  (∀ l : Lane,
    let at' := 6 + 6 * l.val
    bytesAt body (at' + 3) 1 = toBytes 1 (s.lane l).lastServed.val ∧
    bytesAt body (at' + 4) 2 = (match (s.lane l).lastSupply with
      | some raw => toBytes 2 raw
      | none => [0xFF, 0xFF]) ∧
    (∀ x, (s.lane l).running = some x →
      bytesAt body at' 3 =
        toBytes 1 (1 + 2 * x.op.code + 8 * x.step.code + (if x.abandoned then 32 else 0) +
          if (s.lane l).writeHold then 64 else 0) ++ toBytes 1 (bayAt l x.position).val ++ toBytes 1 x.attempt) ∧
    ((s.lane l).running = none →
      body.getD at' 0 &&& 0xC1 = (if (s.lane l).writeHold then 0x40 else 0) ∧
      bytesAt body (at' + 1) 2 = [0xFF, 0xFF])) ∧
  (∀ c, s.converter = some c → bytesAt body 24 1 = toBytes 1 (128 + c.channel.val)) ∧
  (s.converter = none → body.getD 24 0 &&& 0xF0 = 0) ∧
  bytesAt body 25 2 = toBytes 2 s.settings.holdRaw ∧
  (∀ lv : Level,
    (body.getD 27 0).getLsbD lv.val = s.service[lv].isSome ∧ (body.getD 27 0).getLsbD (4 + lv.val) = s.offerable lv ∧
    bytesAt body (28 + lv.val) 1 = toBytes 1 (s.latchedPairs lv).length) ∧
  (∀ k : Fin 13, bytesAt body (32 + k.val) 1 = toBytes 1 s.settings.routing[k].val) ∧
  bytesAt body 45 2 = toBytes 1 s.settings.levelMask.toNat ++ toBytes 1 s.settings.wakeMask.toNat ∧
  bytesAt body 47 1 =
    toBytes 1 ((if s.dozing then 1 else 0) + (if s.attention then 2 else 0) + if s.wake then 4 else 0)

/-! ### Lanes watched closely (R141) -/

/-- A lane is watched closely: a bay of it holds COMMIT or FINAL in its slot, or an ADVANCE on it awaits its reply. -/
def WatchedClosely (s : State) (l : Lane) : Prop :=
  (∃ p : Position, (s.bay (bayAt l p)).slot = some .commit ∨ (s.bay (bayAt l p)).slot = some .final) ∨
    ∃ x, (s.lane l).running = some x ∧ x.step = .advance ∧ x.timer ≠ none

/-! ### The survey run (R153, R154) -/

/-- The results of a run, as its reply lists them for the twelve bays. -/
def SurveyRun.resultBytes (r : SurveyRun) : List Byte :=
  allBays.flatMap fun b => match r.results[b] with
    | some (raw, sensed) => toBytes 2 raw ++ toBytes 2 sensed
    | none => [0xFF, 0xFF, 0xFF, 0xFF]

/-- How an event that leaves the run record `r` leads from `s` to `t`: with a member left the pass goes on; else the next
pass starts with the listed bays that are then ACTIVE with a valid calibration; and with no pass left, or no such bay, the
run ends with its reply. -/
def RunGoesOn (s : State) (r : SurveyRun) (t : State) : Prop :=
  ((∃ b : Bay, r.members[b] ≠ none) → t.run = some r ∧ t.replies = s.replies) ∧
  ((∀ b : Bay, r.members[b] = none) → 0 < r.passesLeft → (∃ b : Bay, r.listed[b] = true ∧ t.surveyable b = true) →
    t.replies = s.replies ∧
    ∃ r' : SurveyRun, t.run = some r' ∧
      r' = { r with
              passesLeft := r.passesLeft - 1, passesRun := r.passesRun + 1, members := r'.members
              skipped := r'.skipped } ∧
      ∀ b : Bay,
        r'.members[b] = (if r.listed[b] && t.surveyable b then some false else none) ∧
        r'.skipped[b] = (r.skipped[b] || (r.listed[b] && !t.surveyable b)) ∧
        ((r.listed[b] && t.surveyable b) = true → (t.bay b).wanted = true)) ∧
  ((∀ b : Bay, r.members[b] = none) →
    r.passesLeft = 0 ∨ (∀ b : Bay, r.listed[b] = true → t.surveyable b = false) →
      t.run = none ∧
      ∃ skipped : Nat, skipped < 4096 ∧
        (∀ b : Bay, skipped.testBit b.val = (r.skipped[b] || (decide (0 < r.passesLeft) && r.listed[b]))) ∧
        t.replies = s.replies ++
          if r.reserved then
            [{ ticket := r.ticket, kind := 0x50, result := .ok
               body := toBytes 1 (r.passesRun + r.passesLeft) ++ toBytes 2 skipped ++ r.resultBytes }]
          else [])

/-- The run when a bay leaves ACTIVE: a member not yet taken ends and is skipped; a filtered removal drops the bay from the
listed set as well. -/
def SurveyRun.without (r : SurveyRun) (b : Bay) (removed : Bool) : SurveyRun :=
  let waits := r.members[b] == some false
  { r with
    listed := if removed then put r.listed b false else r.listed
    skipped := put r.skipped b (r.skipped[b] || waits || (removed && r.listed[b]))
    members := if waits then put r.members b none else r.members }

/-! ### The store writer after a change of policy -/

/-- From `s` to `t`, POLICY became dirty and the store writer was triggered: nothing counts as failed, a walk in progress
goes on, and an IDLE writer begins one, with TABLE before POLICY (R186, R190). -/
def PolicyFlushed (s t : State) : Prop :=
  t.writer.failed = Sections.empty ∧
    (∀ c, s.writer.writing = some c →
      t.writer.writing = some c ∧ t.writer.dirty = { s.writer.dirty with policy := true }) ∧
    (s.writer.writing = none → s.writer.dirty.table = true →
      t.writer.writing = some (.table s.table) ∧
        t.writer.dirty = { s.writer.dirty with table := false, policy := true }) ∧
    (s.writer.writing = none → s.writer.dirty.table = false →
      t.writer.writing = some (.policy t.policy) ∧ t.writer.dirty = { s.writer.dirty with policy := false })

/-- Every permit line was evaluated with the policy then in force, and the bays are otherwise as they were (R126). -/
def LinesEvaluated (s t : State) : Prop :=
  ∀ b, t.bay b = { s.bay b with line := (s.bay b).line.evaluate ((s.bay b).phase.target t.policy) }

/-! ### Transactions on a lane -/

/-- The operation `x` runs on lane `l`, not abandoned, and its transaction awaits a reply (R26). -/
abbrev Awaiting (s : State) (l : Lane) (x : Running) : Prop :=
  (s.lane l).running = some x ∧ x.timer ≠ none ∧ x.abandoned = false

/-- From `s` to `t`, bay `b`, which is not bound, has entered REJECTED with a reason: REJECTED is latched, the line follows
the reject mode, and nothing changes elsewhere but lane `l`, whose operation ends (R12). -/
def Rejects (s t : State) (l : Lane) (b : Bay) (reason : RejectReason) : Prop :=
  t = { s with bays := t.bays, lanes := t.lanes, latches := t.latches } ∧
    t.bay b =
      { s.bay b with
        phase := .rejected reason DrawFigures.zero
        line := if s.device = .running ∧ s.policy.rejectMode = .allow then .allow else .inhibit } ∧
    (∀ c, c ≠ b → t.bay c = s.bay c) ∧ (∀ m, m ≠ l → t.lane m = s.lane m) ∧
    t.latchOf (baySite b) Kind.rejected.code ≠ none ∧
    ∀ site k, ¬(site = baySite b ∧ k = Kind.rejected.code) → t.latchOf site k = s.latchOf site k

/-- The table once bay `b` with binding `bd` is unbound: owed ink and unsure target are in its entry, which names no bay
(R58, R59). -/
def tableUnbound (table : List Entry) (b : Bay) (bd : Binding) : List Entry :=
  table.map fun e =>
    if e.bay = some b then
      { e with
        owed := bd.acct.pending
        unsure := bd.commit.state.target?.map fun T => { target := T, amount := bd.acct.inflight }
        bay := none }
    else e

/-- The response a tag with a master key gives over a nonce, a serial and a counter (R43). -/
def tagResponse (master : Key) (serial : Serial) (nonce : Key) (counter : Nat) : Key :=
  Config.digest (Config.digest master (toBytes 8 serial.toNat ++ List.replicate 8 0))
    (toBytes 16 nonce.toNat ++ toBytes 8 serial.toNat ++ toBytes 3 counter)

/-- A CHALLENGE or ADVANCE reply: position, counter, response and frame check (R183). -/
def counterReply (p : Position) (counter : Nat) (response : Key) : List Byte :=
  withCheck (toBytes 1 p.val ++ toBytes 3 counter ++ toBytes 16 response.toNat)

/-- A completion with tag counter `c` leaves these figures of `a`: what was in flight is charged, and pending is cut to the
room left above `c` when it no longer fits (R106, R86). -/
def Completes (a a' : Account) (c : Nat) : Prop :=
  a'.committed = c ∧ a'.inflight = 0 ∧ a'.charged = a.charged + a.inflight ∧ a'.carried = a.carried ∧
    a'.credited = a.credited ∧
    (c + (a.pending - a.inflight) ≤ 16777215 →
      a'.pending = a.pending - a.inflight ∧ a'.fine = a.fine ∧ a'.ceiling = a.ceiling) ∧
    (16777215 < c + (a.pending - a.inflight) → a'.pending = 16777215 - c ∧ a'.fine = 0 ∧ a'.ceiling = true)

/-- The bay at position `p` of lane `l` is a candidate for an operation (R31, R33). -/
abbrev Candidate (s : State) (l : Lane) (p : Position) (op : OpKind) : Prop :=
  (s.bay (bayAt l p)).slot = some op ∧ (op = .commit ∨ op = .final → (s.lane l).writeHold = false)

/-- The class number of an operation (R31). -/
def OpKind.classNumber : OpKind → Nat
  | .final => 1
  | .reconcile => 2
  | .commit => 3
  | .identify => 4

/-- How many positions after the last-served one a position comes, less one (R32). -/
def searchRank (last p : Position) : Nat := (p.val + 3 - last.val) % 4

/-! ### The loop of a credit, as the rule words it (R88) -/

/-- Step 2 of a credit: while credit `rem` remains and free pending `free` is at least 1 tu, 1 tu is borrowed into `fine` and
applied. The results: the tu borrowed, the fine left, and the credit applied. -/
def creditLoop : Nat → Nat → Nat → Nat × Nat × Nat
  | 0, _, fine => (0, fine, 0)
  | free + 1, rem, fine =>
    if rem = 0 then (0, fine, 0)
    else
      let borrowedFine := fine + 10 ^ 10
      let applied := min rem borrowedFine
      let (n, f, a) := creditLoop free (rem - applied) (borrowedFine - applied)
      (n + 1, f, a + applied)

end Sys2Proof.Machine
end

