-- ==== Sys2Proof/Certificates/Slice0/Obligations.lean ====
section
/-! DEFINITION. The statements for the provers. -/

section

open Sys2Proof Sys2Proof.Machine

/-! ### Steps, reset and start -/

/-- A step takes the command at the front of the queue and runs it on the rest. -/
def Obligations.StepRunsFrontCommand : Prop :=
  ∀ (c : Instr) (rest : List Instr) (s : State),
    step { s with pending := c :: rest } = exec c { s with pending := rest }

/-- On an empty queue a step is one tick of the 1 ms time base (the model's choice, logs 1 and 2, and log 25 for a lane whose
interval changes): every timer present counts one up to its limit, nothing else changes, and the expiries that are then due
are queued: those of the bays in ascending order, then those of the lanes. -/
def Obligations.EmptyQueueTicks : Prop :=
  ∀ s : State, s.pending = [] →
    ∃ t : State, step s = .next t ∧
      t = { s with now := s.now + 1, pending := t.pending, bays := t.bays, lanes := t.lanes } ∧
      (∀ b, t.bay b =
        { s.bay b with
          filter :=
            { (s.bay b).filter with
              window := (s.bay b).filter.window.map fun w =>
                { w with ms := if w.ms < (if w.level = .seated then 50 else 5) then w.ms + 1 else w.ms } }
          line := match (s.bay b).line with
            | .armed ms => .armed (if ms < 2000 then ms + 1 else ms)
            | .allow => .allow
            | .inhibit => .inhibit
          surveyTimer := (s.bay b).surveyTimer.map fun ms =>
            if ms < (s.bayCfg b).calib.period then ms + 1 else ms }) ∧
      (∀ l, t.lane l =
        { s.lane l with
          running := (s.lane l).running.map fun x =>
            { x with timer := x.timer.map fun ms => if ms < 25 then ms + 1 else ms }
          supplyTimer := (s.lane l).supplyTimer.map fun ms => if ms < 1000 then ms + 1 else ms }) ∧
      t.pending = allBays.flatMap t.bayExpiries ++ allLanes.flatMap t.laneExpiries ∧
      ∀ c, c ∈ t.pending ↔
        (∃ b w, c = .presenceWindowExpiry b ∧ (t.bay b).filter.window = some w ∧
          (if w.level = .seated then 50 else 5) ≤ w.ms) ∨
        (∃ b ms, c = .holdLimitExpiry b ∧ (t.bay b).line = .armed ms ∧ 2000 ≤ ms) ∨
        (∃ b ms, c = .surveyTimerExpiry b ∧ (t.bay b).surveyTimer = some ms ∧ (t.bayCfg b).calib.period ≤ ms ∧
          (t.bay b).wanted = false) ∨
        (∃ l x ms, c = .replyTimerExpiry l ∧ (t.lane l).running = some x ∧ x.timer = some ms ∧ 25 ≤ ms) ∨
        ∃ l ms, c = .supplyTimerExpiry l ∧ (t.lane l).supplyTimer = some ms ∧
          (1000 ≤ ms ∨ 10 ≤ ms ∧ WatchedClosely t l) ∧ (t.lane l).supplyDue = none

/-- POWER_ON and RESET_PIN begin a cold start in every device state: the volatile state takes its cold-start values, and the
store, the one-way area and the master keys stay. That the levels of the input pins stay is the model's reading (log 35), and
that the waiting commands stay is its choice (log 32). -/
def Obligations.ColdStartClears : Prop :=
  ∀ (s : State) (c : Instr), c = .powerOn ∨ c = .resetPin →
    ∃ t : State, exec c s = .next t ∧
      t.device = .starting ∧ t.save = .none ∧ t.restarting = false ∧ t.waiters = [] ∧
      t.writer.writing = none ∧ t.writer.dirty = Sections.empty ∧
      (∀ b, (t.bay b).phase = .off ∧ (t.bay b).slot = none ∧ (t.bay b).line = .inhibit ∧
        (t.bay b).filter = { level := .absent, window := none } ∧ (t.bay b).staged = none ∧
        (t.bay b).wanted = false ∧ (t.bay b).surveyTimer = none ∧ (t.bay b).due = none ∧ (t.bay b).counter = 0) ∧
      (∀ l, (t.lane l).running = none ∧ (t.lane l).lastServed = 3 ∧ (t.lane l).writeHold = false ∧
        (t.lane l).supplyTimer = none ∧ (t.lane l).supplyDue = none ∧ (t.lane l).lastSupply = none) ∧
      t.converter = none ∧ t.run = none ∧ (∀ site k, t.latchOf site k = none) ∧ (∀ lv : Level, t.service[lv] = none) ∧
      t.dozing = false ∧ t.status = .notReady ∧ t.requests = [] ∧ t.replies = [] ∧
      t.store = s.store ∧ t.oneWay = s.oneWay ∧ t.masterKeys = s.masterKeys ∧ t.raw = s.raw ∧ t.pfail = s.pfail ∧
      t.pending = s.pending

/-- The state right after reset is STARTING with the link status NOT_READY, and meets every invariant of the part. The
sections, the inputs and the empty command queue of that state are the model's choice (logs 7, 8, 32). -/
def Obligations.ResetMeetsInvariants : Prop :=
  State.reset.device = .starting ∧ State.reset.status = .notReady ∧ State.reset.pending = [] ∧
    PermitSafe State.reset ∧ AccountsBalanced State.reset ∧ QueuesBounded State.reset ∧ TableConsistent State.reset ∧
    SealHolds State.reset

/-- LOAD_COMPLETION in STARTING. With an answering store the device becomes RUNNING: intact sections are loaded, a lost one
takes its default and is written back, entries name no bay, enabled bays are VACANT with their filter started, every line
inhibits, and the policy obeys the one-way marks. Without an answer the device becomes FAULTED on the defaults. That the
command says which stored copies fail their check is the model's choice (log 6). -/
def Obligations.LoadCompletionStarts : Prop :=
  ∀ (s : State) (p c d : Bool), s.device = .starting → QuietUnlessRunning s → s.writer = Writer.cold → s.save = .none →
    (∃ t : State, exec (.loadCompletion true p c d) s = .next t ∧ t.device = .running ∧
      t.settings = (if c then Settings.factory else s.store.settings.getD Settings.factory) ∧
      t.policy =
        ((if p then Policy.strict s.oneWay else s.store.policy.getD (Policy.strict s.oneWay)).underMarks s.oneWay) ∧
      (s.oneWay.sealMark = true → t.policy.isSealed = true) ∧ t.policy.allowed &&& s.oneWay.revoked = 0 ∧
      (s.pfail = false →
        t.table = (((if d then none else s.store.table).filter tableShapeOk).getD []).map fun e => { e with bay := none }) ∧
      (∀ e ∈ t.table, e.bay = none) ∧
      (∀ b, if (t.bayCfg b).disabled then (t.bay b).phase = .off
        else (t.bay b).phase = .vacant ∧ (t.bay b).filter = Filter.start s.raw[b]) ∧
      (∀ b, (t.bay b).line = .inhibit ∧ (t.bay b).thresholds = (t.bayCfg b).stored) ∧
      (p || c || d → t.latchOf deviceSite Kind.storeFault.code ≠ none ∧ t.writer.writing ≠ none) ∧
      (s.pfail = true → s.restarting = false → t.save = .saving)) ∧
    ∃ t : State, exec (.loadCompletion false p c d) s = .next t ∧ t.device = .faulted ∧ t.settings = Settings.factory ∧
      t.policy = (Policy.strict s.oneWay).underMarks s.oneWay ∧ t.policy.isSealed = true ∧ t.table = [] ∧
      (∀ b, (t.bay b).phase = .off ∧ (t.bay b).line = .inhibit) ∧
      t.latchOf deviceSite Kind.storeFault.code ≠ none ∧ t.store = s.store

/-! ### Frames and queues -/

/-- FRAME_START ends doze and builds the outbound frame: the link status and one item, the head reply, else a notice record of
the most urgent offerable level, else IDLE; in STARTING always IDLE. While the host clocks, the part sends the frame's bytes
and then 0x00. Nothing else changes but survey schedules and the converter. That the first frame after the load is built as
any other (log 39), and that a frame start asks for no end of the frame before (log 4), are the model's choices. -/
def Obligations.FrameStartBuildsItem : Prop :=
  ∀ s : State, ∃ t : State, exec .frameStart s = .next t ∧ t.dozing = false ∧
    (∃ item, t.frame = some { status := s.status, item := item, toDeliver := true } ∧
      (s.device = .starting → item = .idle) ∧
      (s.device ≠ .starting → ∀ r rest, s.replies = r :: rest → item = .reply r) ∧
      (s.device ≠ .starting → s.replies = [] → (∀ lv, s.offerable lv = false) → item = .idle) ∧
      (s.device ≠ .starting → s.replies = [] → ∀ lv, s.offerable lv = true →
        (∀ m, m < lv → s.offerable m = false) → item = .notice lv ((s.latchedPairs lv).take 57))) ∧
    t = { s with
          dozing := false, frame := t.frame, bays := t.bays, lanes := t.lanes, converter := t.converter, run := t.run } ∧
    (∀ b, SameButSchedule (s.bay b) (t.bay b)) ∧
    (∀ l, t.lane l = { s.lane l with supplyTimer := (t.lane l).supplyTimer, supplyDue := (t.lane l).supplyDue }) ∧
    ∀ (f : Frame) (clocked : Nat),
      let covered := toBytes 1 (match f.item with
          | .idle => 0
          | .reply _ => 1
          | .notice _ _ => 2) ++ toBytes 1 f.item.bytes.length ++ f.item.bytes
      let whole := toBytes 1 f.status.code ++ covered ++ toBytes 2 (crc16 covered).toNat
      (f.sent clocked).length = clocked ∧
        ∀ i, i < clocked → (f.sent clocked)[i]? = some (if i < 3 + f.item.bytes.length + 2 then whole.getD i 0 else 0)

/-- ITEM_DELIVERY of a frame that still has its item. With fewer than 3 + n + 2 bytes clocked nothing changes. Otherwise the
item is delivered: a reply leaves the queue, a DOZE reply makes the link doze, a RESTART reply with OK or PARTIAL begins the
cold start, and a notice record clears its latches and puts its level in service. That the command gives the number of bytes
clocked, and that it stands apart from the host half of its frame, are the model's choices (logs 5, 4). -/
def Obligations.ItemDeliveryDelivers : Prop :=
  ∀ (s : State) (f : Frame) (clocked : Nat), s.frame = some f → f.toDeliver = true →
    (clocked < 3 + f.item.bytes.length + 2 → exec (.itemDelivery clocked) s = .next s) ∧
    (3 + f.item.bytes.length + 2 ≤ clocked →
      ∃ t : State, exec (.itemDelivery clocked) s = .next t ∧
        (f.item = .idle → t.replies = s.replies ∧ t.latches = s.latches ∧ t.service = s.service) ∧
        (∀ r, f.item = .reply r →
          if r.kind = 0x52 ∧ (r.result = .ok ∨ r.result = .partially) then
            t.device = .starting ∧ t.replies = [] ∧ t.requests = [] ∧ t.store = s.store
          else
            t.replies = s.replies.drop 1 ∧ (r.kind = 0x53 ∧ r.result = .ok → t.dozing = true) ∧
              (¬(r.kind = 0x53 ∧ r.result = .ok) → t.dozing = s.dozing) ∧ t.latches = s.latches ∧
              t.service = s.service) ∧
        ∀ lv pairs, f.item = .notice lv pairs →
          t.replies = s.replies ∧ t.service[lv] = some pairs ∧ (∀ p ∈ pairs, t.latchOf p.site p.kind = none) ∧
            ∀ site k, (∀ p ∈ pairs, ¬(p.site = site ∧ p.kind = k)) → t.latchOf site k = s.latchOf site k)

/-- LINK_RESET. In STARTING it only leaves the status NOT_READY. Otherwise both queues end empty with no reservation, the
frame's item is gone, every level in service has its pairs latched again with that level and leaves service, set latches keep
their level, and no bay, meter, lane, table, store or policy state changes; a SURVEY_RUN and the requests that wait for a walk
go on without their reservations. A RESTART reply removed by it begins the cold start, the same as at power-on. The model's
choices are that a pair of two service copies takes the more urgent of their levels (log 19), that a link reset in the first
frame after the load is taken as any other (log 39), that one in a frame the end of the load falls into is judged by the
device state at its own command (log 38), and that it acts whether or not a frame was begun (log 4). -/
def Obligations.LinkResetEmptiesQueues : Prop :=
  ∀ s : State,
    (s.device = .starting → exec .linkReset s = .next { s with status := .notReady }) ∧
    (s.device ≠ .starting → (∀ r ∈ s.replies, ¬(r.kind = 0x52 ∧ (r.result = .ok ∨ r.result = .partially))) →
      ∃ t : State, exec .linkReset s = .next t ∧ t.requests = [] ∧ t.replies = [] ∧ t.reservations = 0 ∧ t.status = .taken ∧
        (∀ lv : Level, t.service[lv] = none) ∧
        (∀ (lv : Level) pairs, s.service[lv] = some pairs → ∀ p ∈ pairs, t.latchOf p.site p.kind ≠ none) ∧
        (∀ (lv : Level) pairs, s.service[lv] = some pairs → ∀ p ∈ pairs, s.latchOf p.site p.kind = none →
          (∀ m : Level, m < lv → ∀ others, s.service[m] = some others → p ∉ others) →
            t.latchOf p.site p.kind = some lv) ∧
        (∀ site k lv, s.latchOf site k = some lv → t.latchOf site k = some lv) ∧
        (∀ site k, (∀ (lv : Level) pairs, s.service[lv] = some pairs → ∀ p ∈ pairs, ¬(p.site = site ∧ p.kind = k)) →
          t.latchOf site k = s.latchOf site k) ∧
        t.frame = s.frame.map (fun f => { f with toDeliver := false }) ∧
        t = { s with
              requests := [], replies := [], status := .taken, frame := t.frame, latches := t.latches
              service := t.service, bays := t.bays, waiters := t.waiters, run := t.run } ∧
        t.waiters = s.waiters.map (fun w => { w with reserved := false }) ∧
        t.run = s.run.map (fun r => { r with reserved := false }) ∧
        ∀ b,
          t.bay b =
            { s.bay b with
              phase := (s.bay b).phase.mapBinding fun bd =>
                { bd with
                  commit := { bd.commit with release := bd.commit.release.map fun x => { x with reserved := false } } } }) ∧
    (s.device ≠ .starting → (∃ r ∈ s.replies, r.kind = 0x52 ∧ (r.result = .ok ∨ r.result = .partially)) →
      exec .linkReset s = exec .powerOn s ∧
      ∃ t : State, exec .linkReset s = .next t ∧ t.device = .starting ∧ t.requests = [] ∧ t.replies = [] ∧ t.store = s.store)

/-- EMPTY_FRAME takes no action and leaves the status NONE. REQUEST_FRAME: NOT_READY in STARTING, for either; a length of 1 or
62..254, or too few bytes clocked, gives BAD_LENGTH; a wrong CRC-16 gives BAD_CHECK; a right one is accepted at the tail of
the request queue when that holds fewer than 4 and the placed replies and reservations number fewer than 8, and is dropped
with FULL otherwise. Nothing else changes. The model's choices are that a request in the first frame after the load is
accepted as any other (log 39), that one in a frame the end of the load falls into is judged by the device state at its own
command (log 38), and that the command acts whether or not a frame was begun (log 4). -/
def Obligations.HostFramesJudged : Prop :=
  (∀ s : State, exec .emptyFrame s = .next { s with status := if s.device = .starting then .notReady else .none }) ∧
  (∀ (s : State) (l : Byte) (tail : List Byte), l ≠ 0 → l ≠ 0xFF →
    (s.device = .starting → exec (.requestFrame (l :: tail)) s = .next { s with status := .notReady }) ∧
    (s.device ≠ .starting → l = 1 ∨ 62 ≤ l.toNat ∨ tail.length < l.toNat + 2 →
      exec (.requestFrame (l :: tail)) s = .next { s with status := .badLength }) ∧
    (s.device ≠ .starting → l ≠ 1 → l.toNat ≤ 61 → l.toNat + 2 ≤ tail.length →
      (tail.drop l.toNat).take 2 ≠ toBytes 2 (crc16 (l :: tail.take l.toNat)).toNat →
      exec (.requestFrame (l :: tail)) s = .next { s with status := .badCheck })) ∧
  ∀ (s : State) (ticket kind : Byte) (body extra : List Byte), s.device ≠ .starting → body.length ≤ 59 →
    let covered := [BitVec.ofNat 8 (body.length + 2), ticket, kind] ++ body
    exec (.requestFrame (covered ++ toBytes 2 (crc16 covered).toNat ++ extra)) s = .next
      (if s.requests.length < 4 ∧ s.replies.length + s.reservations < 8 then
        { s with requests := s.requests ++ [{ ticket := ticket, kind := kind, body := body }], status := .taken }
      else { s with status := .full })

/-- The CRC-16 of the host link is the remainder of the message, with the initial value 0xFFFF before it, by the polynomial
0x1021 with its leading term; the CRC-8 of the tag lanes is the remainder by 0x07 with its leading term, from 0x00. Over any
bytes followed by their own check, most significant byte first, either comes to zero. -/
def Obligations.ChecksAreRemainders : Prop :=
  ∀ bs : List Byte,
    (Polynomial.X ^ 16 + bitsPoly (0x1021 : BitVec 16)) ∣
      messagePoly bs * Polynomial.X ^ 16 + bitsPoly (0xFFFF : BitVec 16) * Polynomial.X ^ (8 * bs.length) -
        bitsPoly (crc16 bs) ∧
    (Polynomial.X ^ 8 + bitsPoly (0x07 : BitVec 8)) ∣ messagePoly bs * Polynomial.X ^ 8 - bitsPoly (crc8 bs) ∧
    crc16 (bs ++ toBytes 2 (crc16 bs).toNat) = 0 ∧ crc8 (withCheck bs) = 0

/-- A taken request leaves the queue and is judged in order: an unknown kind code, then the FAULTED device, then the body
length, then the number of the bay where one is named; each refusal replies and changes nothing else. With no request at
the head nothing is taken (log 3). -/
def Obligations.TakeJudgesInOrder : Prop :=
  (∀ (s : State) (r : Request) (rest : List Request), s.requests = r :: rest → (∀ k : ReqKind, r.kind ≠ k.code) →
    exec .unknownKind s = .next (s.answered rest (r.answer .unknownKind []))) ∧
  (∀ (s : State) (k : ReqKind) (r : Request) (rest : List Request), s.requests = r :: rest → r.kind = k.code →
    (s.device = .faulted → k ≠ .statusGet → k ≠ .restart →
      exec k.takes s = .next (s.answered rest (r.answer .faulted []))) ∧
    (s.device ≠ .faulted ∨ k = .statusGet ∨ k = .restart → k.lengthOk r.body.length = false →
      exec k.takes s = .next (s.answered rest (r.answer .badArg [])))) ∧
  (∀ (s : State) (k : ReqKind) (r : Request) (rest : List Request),
    k = .bayGet ∨ k = .meterGet ∨ k = .purgeReport ∨ k = .returnReport ∨ k = .dropsSet ∨ k = .levelsSet ∨ k = .senseSet ∨
      k = .commitSet ∨ k = .slotSet ∨ k = .bayRecheck ∨ k = .bayRelease ∨ k = .bayDisable ∨ k = .bayEnable ∨
      k = .commitRetry →
    Taking s k r rest → k.lengthOk r.body.length = true → 11 < (r.body.headD 0).toNat →
      exec k.takes s = .next (s.answered rest (r.answer .badArg []))) ∧
  ∀ (s : State) (k : ReqKind), s.requests = [] → exec k.takes s = .next s ∧ exec .unknownKind s = .next s

/-! ### Queries -/

/-- The four queries reply OK with the state as it stands at the take and change nothing else; a METER_GET page above 1 and a
TABLE_GET position above 31 are refused. Their bodies have the lengths of the layout table and carry every field at its
offset: the bay, the meter's settings and figures by the bay's state, the entry, and the status. That STATUS_GET's own reply
is not yet placed in the counts and the attention line is the model's choice (log 40), and so are the free bits of absent
values (log 21) and the low 12 bytes of a figure beyond its 96 bits (log 23); yes as 1, and the order of a byte's bits where a
layout lists them together, are its reading (log 22). -/
def Obligations.QueriesReplyOnly : Prop :=
  (∀ (s : State) (r : Request) (rest : List Request),
    (Taking s .statusGet r rest → r.body = [] →
      exec .statusGet s = .next (s.answered rest (r.answer .ok (s.dequeued rest).statusBody))) ∧
    (∀ b : Bay, Taking s .bayGet r rest → r.body = toBytes 1 b.val →
      exec .bayGet s = .next (s.answered rest (r.answer .ok (s.bayBody b)))) ∧
    (∀ b : Bay, Taking s .meterGet r rest → r.body = toBytes 1 b.val →
      exec .meterGet s = .next (s.answered rest (r.answer .ok (s.meterBody b 0)))) ∧
    (∀ (b : Bay) (page : Nat), page < 256 → Taking s .meterGet r rest → r.body = toBytes 1 b.val ++ toBytes 1 page →
      exec .meterGet s = .next (s.answered rest
        (if page ≤ 1 then r.answer .ok (s.meterBody b page) else r.answer .badArg []))) ∧
    ∀ position : Nat, position < 256 → Taking s .tableGet r rest → r.body = toBytes 1 position →
      exec .tableGet s = .next (s.answered rest
        (if position ≤ 31 then r.answer .ok (s.tableBody position) else r.answer .badArg []))) ∧
  ∀ (s : State) (b : Bay),
    (s.bayBody b).length = 27 ∧ (s.meterBody b 0).length = 56 ∧ (s.meterBody b 1).length = 42 ∧
    s.statusBody.length = 51 ∧
    (s.bayBody b).take 3 = toBytes 1 b.val ++ toBytes 1 (s.bay b).phase.code ++ toBytes 1 (slotCodeOf (s.bay b).slot) ∧
    (∀ bd, (s.bay b).phase.binding? = some bd →
      ((s.bayBody b).drop 10).take 8 = toBytes 8 bd.serial.toNat ∧
      ((s.bayBody b).drop 20).take 3 = toBytes 3 bd.capacity ∧
      ((s.bayBody b).drop 24).take 1 = toBytes 1 bd.commit.state.code ∧
      ((s.meterBody b 0).drop 18).take 3 = toBytes 3 bd.acct.committed ∧
      ((s.meterBody b 0).drop 24).take 3 = toBytes 3 bd.remaining ∧
      ((s.meterBody b 1).drop 4).take 3 = toBytes 3 bd.acct.charged ∧
      ((s.meterBody b 1).drop 7).take 3 = toBytes 3 bd.acct.pending ∧
      ((s.meterBody b 1).drop 13).take 5 = toBytes 5 bd.acct.fine ∧
      ((s.meterBody b 1).drop 30).take 12 = toBytes 12 bd.acct.credited) ∧
    ((s.bayBody b).drop 26) = toBytes 1 (s.bay b).line.code ∧
    bytesAt (s.bayBody b) 3 3 =
      toBytes 1 ((if (s.bay b).filter.level = .seated then 1 else 0) + (if (s.bay b).filter.window = none then 0 else 2) +
        (if s.raw[b] = .seated then 4 else 0) + if (s.bayCfg b).disabled then 8 else 0) ++
        toBytes 2 (s.bayCfg b).slotCode.toNat ∧
    (∀ bd, (s.bay b).phase.binding? = some bd →
      bytesAt (s.bayBody b) 6 2 = [0xFF, if bd.evidence = [] then 0 else 1] ∧
      (bd.evidence.Nodup → ∀ k : EvidenceKind,
        ((s.bayBody b).getD 8 0).getLsbD k.code = decide (k ∈ bd.evidence)) ∧
      bytesAt (s.bayBody b) 9 1 = (match bd.evidence with
        | [] => [0xFF]
        | k :: _ => toBytes 1 k.code) ∧
      bytesAt (s.bayBody b) 18 2 = toBytes 2 bd.product.toNat ∧ bytesAt (s.bayBody b) 23 1 = toBytes 1 bd.keyIndex.val ∧
      bytesAt (s.bayBody b) 25 1 = toBytes 1 bd.ink.code) ∧
    ((s.bay b).phase.binding? = none →
      bytesAt (s.bayBody b) 6 1 = (match (s.bay b).phase with
        | .rejected reason _ => toBytes 1 reason.code
        | _ => [0xFF]) ∧
      bytesAt (s.bayBody b) 7 19 =
        [0xFF, 0xFF, 0xFF] ++ List.replicate 8 0 ++ [0xFF, 0xFF] ++ List.replicate 3 0 ++ [0xFF, 0xFF, 0xFF]) ∧
    MeterLayout s b ∧
    (∀ position e, s.table[position]? = some e →
      (s.tableBody position).length = 32 ∧ (s.tableBody position).drop 2 = e.body ∧
        s.tableBody position = toBytes 1 position ++ toBytes 1 s.table.length ++ e.layout) ∧
    (∀ position, s.table[position]? = none →
      s.tableBody position = toBytes 1 position ++ toBytes 1 s.table.length ++ [0]) ∧
    s.statusBody.take 2 = toBytes 1 s.device.code ++ toBytes 1 s.save.code ∧ StatusLayout s ∧
    s.statusBody.drop 48 = toBytes 1 s.requests.length ++ toBytes 1 s.replies.length ++ toBytes 1 s.reservations

/-! ### Metering -/

/-- A TALLY body laid out byte by byte is read back as its swath-end flag and its entries, whatever the purpose bits. -/
def Obligations.TallyBodyReadsBack : Prop :=
  ∀ (swathEnd : Bool) (entries : List (TallyEntry × Bool)), entries.length ≤ 14 →
    (∀ e ∈ entries, e.1.bay < 16 ∧ e.1.count < 2 ^ 24) →
    TallyBody.parse
        (toBytes 1 ((if swathEnd then 128 else 0) + entries.length) ++
          entries.flatMap fun e =>
            toBytes 1 (16 * e.1.bay + 4 * e.1.dropClass.val + if e.2 then 1 else 0) ++ toBytes 3 e.1.count) =
      some { swathEnd := swathEnd, entries := entries.map (·.1) }

/-- The contribution of a tally entry is exact: 1024 contributions and the new remainder make up count times volume times
scale plus the old remainder; splitting a count over two entries changes nothing; and one entry gives at most
1,374,368,481,282 fL. -/
def Obligations.ContributionIsExact : Prop :=
  (∀ n v k r : Nat, n * v * k + r = 1024 * (contribution n v k r).1 + (contribution n v k r).2 ∧
    (contribution n v k r).2 < 1024) ∧
  (∀ n m v k r : Nat,
    contribution (n + m) v k r =
      ((contribution n v k r).1 + (contribution m v k (contribution n v k r).2).1,
        (contribution m v k (contribution n v k r).2).2)) ∧
  (∀ n r : Nat, ∀ v k, n = 0 ∨ v = 0 → r < 1024 → contribution n v k r = (0, r)) ∧
  ∀ n v k r : Nat, n ≤ 16777215 → v ≤ 65535 → k ≤ 1280 → r < 1024 → (contribution n v k r).1 ≤ 1374368481282

/-- The carry and its ceiling: q whole tu go from fine into pending when q is at most the headroom; beyond it pending
becomes 16,777,215 less committed, fine becomes 0 and the ceiling flag is set, and under the flag nothing is added. -/
def Obligations.CarryAndCeiling : Prop :=
  ∀ (a : Account) (c : Nat),
    (a.ceiling = true → a.charge c = a) ∧
    (a.ceiling = false → (a.fine + c) / 10 ^ 10 ≤ 16777215 - a.committed - a.pending →
      a.charge c = { a with
        pending := a.pending + (a.fine + c) / 10 ^ 10
        fine := a.fine + c - (a.fine + c) / 10 ^ 10 * 10 ^ 10 }) ∧
    (a.ceiling = false → 16777215 - a.committed - a.pending < (a.fine + c) / 10 ^ 10 →
      a.charge c = { a with pending := 16777215 - a.committed, fine := 0, ceiling := true })

/-- A tally entry by the state of its bay: charged in ACTIVE, drawn only in REJECTED under reject mode ALLOW, and otherwise
dropped with UNCHARGED latched; an entry for bay 12..15 is skipped. Nothing else changes. -/
def Obligations.TallyEntryByBayState : Prop :=
  (∀ (s : State) (e : TallyEntry), 12 ≤ e.bay → s.tallyEntry e = s) ∧
  ∀ (s : State) (e : TallyEntry) (b : Bay), e.bay = b.val →
    (∀ bd, (s.bay b).phase = .active bd →
      let total := e.count * (s.bayCfg b).vol[e.dropClass] * (s.bayCfg b).scale + bd.draw.remainder
      s.tallyEntry e = s.modBay b fun x =>
        { x with
          phase := .active
            { bd with
              acct := bd.acct.charge (total / 1024)
              draw :=
                { bd.draw with
                  remainder := total % 1024, drawn := bd.draw.drawn + total / 1024
                  swath := bd.draw.swath + total / 1024 } } }) ∧
    (∀ reason d, (s.bay b).phase = .rejected reason d → s.policy.rejectMode = .allow →
      let total := e.count * (s.bayCfg b).vol[e.dropClass] * (s.bayCfg b).scale + d.remainder
      s.tallyEntry e = s.modBay b fun x =>
        { x with
          phase := .rejected reason
            { d with
              remainder := total % 1024, drawn := d.drawn + total / 1024, swath := d.swath + total / 1024 } }) ∧
    ((s.bay b).phase.active? = none → (∀ reason d, (s.bay b).phase = .rejected reason d → s.policy.rejectMode = .inhibit) →
      s.tallyEntry e = s.latch (baySite b) .uncharged)

/-- A swath end captures the swath figures of every bay that holds them, inhibits every armed line and makes the staged pair
of every ACTIVE bay active; nothing else changes. -/
def Obligations.SwathEndCaptures : Prop :=
  ∀ s : State, s.swathEnd = { s with bays := s.swathEnd.bays } ∧
    ∀ b : Bay,
      let captured := fun d : DrawFigures => { d with lastSwath := d.swath, swath := 0 }
      s.swathEnd.bay b =
        { s.bay b with
          phase := match (s.bay b).phase with
            | .active bd => .active { bd with draw := captured bd.draw }
            | .released bd => .released { bd with draw := captured bd.draw }
            | .rejected reason d => .rejected reason (captured d)
            | .off => .off
            | .vacant => .vacant
            | .seated => .seated
            | .identifying => .identifying
          line := match (s.bay b).line with
            | .armed _ => .inhibit
            | .allow => .allow
            | .inhibit => .inhibit
          thresholds :=
            if (s.bay b).phase.active? = none then (s.bay b).thresholds else (s.bay b).staged.getD (s.bay b).thresholds
          staged := if (s.bay b).phase.active? = none then (s.bay b).staged else none }

/-- TALLY applies its entries in list order, then its swath end, then hands on the bays whose figures changed, or every ACTIVE
bay at a swath end, then the arbiters run; the reply counts the entries skipped and dropped and is PARTIAL exactly when one
was skipped. A body that disagrees with its count is refused. That the bays are handed on in ascending order is the model's
choice (log 14); that the arbiters run once, after all hand-ons, is its reading (log 13). -/
def Obligations.TallyApplies : Prop :=
  ∀ (s : State) (r : Request) (rest : List Request), Taking s .tally r rest → ReqKind.lengthOk .tally r.body.length = true →
    (TallyBody.parse r.body = none → exec .tally s = .next (s.answered rest (r.answer .badArg []))) ∧
    ∀ body, TallyBody.parse r.body = some body →
      ∃ applied ended handed,
        applied = body.entries.foldl State.tallyEntry (s.dequeued rest) ∧
        ended = (if body.swathEnd then applied.swathEnd else applied) ∧
        handed = allBays.foldl (fun t b =>
          if body.swathEnd || (applied.bay b).phase != (s.bay b).phase then t.handOn b else t) ended ∧
        exec .tally s = .next
          (handed.runArbiters.place
            (r.answer (if (∃ e ∈ body.entries, 12 ≤ e.bay) then .partially else .ok)
              (toBytes 1 (body.entries.filter fun e => decide (12 ≤ e.bay)).length ++
                toBytes 1 (body.entries.filter s.dropsEntry).length))) ∧
        ∀ e, s.dropsEntry e = true ↔ ∃ b : Bay, e.bay = b.val ∧ (s.bay b).phase.active? = none ∧
          ∀ reason d, (s.bay b).phase = .rejected reason d → s.policy.rejectMode = .inhibit

/-- What commands leave unchanged. TALLY, PURGE_REPORT and RETURN_REPORT touch nothing outside their frame. No command touches
the waiting commands, the time base or the master keys; each input is changed only by the commands named for it, and the
one-way area, the store, the policy, the settings, the services, the frame and the link status only by the commands named for
them, by a load and by a cold start; a command that could begin one leaves them too when none begins. That a cold start keeps
the waiting commands and the time base (logs 1, 32), and that no command changes a master key (log 9), are the model's
choices; that a load and a cold start keep the raw presence inputs and the PFAIL input is its reading (log 35). -/
def Obligations.CommandsKeepTheRest : Prop :=
  (∀ (s t : State) (c : Instr), c = .tally ∨ c = .purgeReport ∨ c = .returnReport → exec c s = .next t →
    MeteringFrame s t) ∧
  ∀ (s t : State) (c : Instr), exec c s = .next t →
    t.pending = s.pending ∧ t.now = s.now ∧ t.masterKeys = s.masterKeys ∧
    ((∀ b lv, c ≠ .rawPresenceChange b lv) → t.raw = s.raw) ∧
    (c ≠ .pfailAssert → c ≠ .pfailDeassert → t.pfail = s.pfail) ∧
    (c ≠ .seal → c ≠ .keyRevoke → t.oneWay = s.oneWay) ∧
    ((∀ ok, c ≠ .storeWriteComplete ok) → (∀ a p q d, c ≠ .loadCompletion a p q d) → t.store = s.store) ∧
    (¬MayRestart c ∨ s.device ≠ .starting ∧ t.device ≠ .starting →
      t.device = s.device ∧ (c ≠ .restart → t.restarting = s.restarting) ∧
      (c ≠ .policySet → c ≠ .keyRevoke → c ≠ .seal → t.policy = s.policy) ∧
      (¬WritesSettings c → t.settings = s.settings) ∧
      (c ≠ .noticeDone → c ≠ .bayDisable → (∀ n, c ≠ .itemDelivery n) → ¬ResetsLink c → t.service = s.service) ∧
      (c ≠ .frameStart → (∀ n, c ≠ .itemDelivery n) → t.dozing = s.dozing ∧ (¬ResetsLink c → t.frame = s.frame)) ∧
      (c ≠ .emptyFrame → c ≠ .linkReset → (∀ bytes, c ≠ .requestFrame bytes) → t.status = s.status))

/-- PURGE_REPORT by the state of its bay: a clamped duration times the purge rate is charged in ACTIVE and handed on when it
changed a figure, counted as drawn only in REJECTED under ALLOW, and otherwise dropped with UNCHARGED; a bay number above
11 is refused. -/
def Obligations.PurgeReported : Prop :=
  (∀ (s : State) (r : Request) (rest : List Request), Taking s .purgeReport r rest → r.body.length = 3 →
    11 < (r.body.headD 0).toNat → exec .purgeReport s = .next (s.answered rest (r.answer .badArg []))) ∧
  ∀ (s : State) (r : Request) (rest : List Request) (b : Bay) (ms : Nat), ms < 65536 → Taking s .purgeReport r rest →
    r.body = toBytes 1 b.val ++ toBytes 2 ms →
    let c := max 1 (min 60000 ms) * (s.bayCfg b).purgeRate * 10 ^ 6
    ((s.bayCfg b).purgeRate ≤ 4095 → c ≤ 245700000000000) ∧
    (∀ bd, (s.bay b).phase = .active bd →
      let charged : Binding :=
        { bd with
          acct := bd.acct.charge c
          draw := { bd.draw with drawn := bd.draw.drawn + c, swath := bd.draw.swath + c } }
      let taken := (s.dequeued rest).modBay b fun x => { x with phase := .active charged }
      exec .purgeReport s = .next
        ((if charged = bd then taken else taken.handOn b).runArbiters.place (r.answer .ok (toBytes 1 0)))) ∧
    (∀ reason d, (s.bay b).phase = .rejected reason d → s.policy.rejectMode = .allow →
      exec .purgeReport s = .next
        (((s.dequeued rest).modBay b fun x =>
          { x with phase := .rejected reason { d with drawn := d.drawn + c, swath := d.swath + c } }).runArbiters.place
            (r.answer .ok (toBytes 1 1)))) ∧
    ((s.bay b).phase.active? = none → (∀ reason d, (s.bay b).phase = .rejected reason d → s.policy.rejectMode = .inhibit) →
      exec .purgeReport s = .next
        (((s.dequeued rest).latch (baySite b) .uncharged).place (r.answer .ok (toBytes 1 2))))

/-- RETURN_REPORT credits an ACTIVE bay with the clamped volume, withdraws a queued request left without ink, hands on changed
figures and replies the credit applied and discarded; a bay in any other state is refused with BAY_STATE, and a bay number
above 11 with BAD_ARG. A withdrawal empties the slot and makes the commit state IDLE, and a release in progress completes with
OK. That the reply of that release comes before the request's own is the model's reading (log 18). -/
def Obligations.ReturnReported : Prop :=
  (∀ (s : State) (r : Request) (rest : List Request), Taking s .returnReport r rest → r.body.length = 4 →
    11 < (r.body.headD 0).toNat → exec .returnReport s = .next (s.answered rest (r.answer .badArg []))) ∧
  ∀ (s : State) (r : Request) (rest : List Request) (b : Bay) (nl : Nat), nl < 2 ^ 24 → Taking s .returnReport r rest →
    r.body = toBytes 1 b.val ++ toBytes 3 nl →
    let x := max 1 (min 1000000 nl) * 10 ^ 6
    (∀ bd, (s.bay b).phase = .active bd →
      let credited := (s.dequeued rest).modBinding b fun y => { y with acct := (y.acct.credit x).1 }
      let withdrawn := credited.withdraw b
      let acct := (bd.acct.credit x).1
      (bd.commit.state ≠ .queued ∨ acct.pending ≠ 0 → withdrawn = credited) ∧
      (bd.commit.state = .queued → acct.pending = 0 →
        OthersKept s withdrawn b ∧ withdrawn.lanes = s.lanes ∧ (withdrawn.bay b).slot = none ∧
        (s.save = .none → withdrawn.table = s.table ∧ withdrawn.writer = s.writer) ∧
        (bd.commit.release = none →
          withdrawn.bay b =
            { s.bay b with
              slot := none
              phase := .active { bd with acct := acct, commit := { bd.commit with state := .idle } } } ∧
          withdrawn.replies = s.replies) ∧
        ∀ rel, bd.commit.release = some rel →
          (∃ bd', (withdrawn.bay b).phase = .released bd' ∧ bd'.commit.state = .idle ∧ bd'.commit.release = none ∧
            bd'.acct.pending = 0 ∧ bd'.acct.fine = 0) ∧
          (withdrawn.bay b).line = .inhibit ∧
          (s.run = none → withdrawn.replies = s.replies ++
            if rel.reserved then [{ ticket := rel.ticket, kind := 0x41, result := .ok, body := [] }] else [])) ∧
      (bd.acct.credit x).2 ≤ x ∧
      exec .returnReport s = .next
        ((if (bd.acct.credit x).1 = bd.acct then withdrawn else withdrawn.handOn b).runArbiters.place
          (r.answer .ok (toBytes 7 (bd.acct.credit x).2 ++ toBytes 7 (x - (bd.acct.credit x).2))))) ∧
    ((s.bay b).phase.active? = none →
      exec .returnReport s = .next (s.answered rest (r.answer .bayState [])))

/-- A credit is the rule's own procedure: from fine first, then one borrowed tu at a time while credit and free pending
remain, the rest discarded. It touches fine, pending and credited alone, and leaves fine below one tu and pending at or
above inflight. -/
def Obligations.CreditIsTheLoop : Prop :=
  ∀ (a : Account) (x : Nat), a.inflight ≤ a.pending →
    let a1 := min x a.fine
    let step2 := creditLoop (a.pending - a.inflight) (x - a1) (a.fine - a1)
    (a.credit x).1 =
      { a with pending := a.pending - step2.1, fine := step2.2.1, credited := a.credited + (a1 + step2.2.2) } ∧
    (a.credit x).2 = a1 + step2.2.2 ∧ (a.credit x).2 ≤ x ∧ a.inflight ≤ (a.credit x).1.pending ∧
    (a.fine < 10 ^ 10 → (a.credit x).1.fine < 10 ^ 10)

/-! ### Settings -/

/-- DROPS_SET stores the four volumes, the scale clamped to 768..1280 and the purge rate clamped to 0..4095, replies them as
stored, marks SETTINGS dirty and triggers the writer, in every bay state; a bay number above 11 is refused. No figure
changes. -/
def Obligations.DropsSetStores : Prop :=
  (∀ (s : State) (r : Request) (rest : List Request) (b : Bay) (v0 v1 v2 v3 k p : Nat), Taking s .dropsSet r rest →
    v0 < 65536 → v1 < 65536 → v2 < 65536 → v3 < 65536 → k < 65536 → p < 65536 →
    r.body = toBytes 1 b.val ++ toBytes 2 v0 ++ toBytes 2 v1 ++ toBytes 2 v2 ++ toBytes 2 v3 ++ toBytes 2 k ++ toBytes 2 p →
    exec .dropsSet s = .next
      (((s.dequeued rest).modBayCfg b fun c =>
        { c with vol := #v[v0, v1, v2, v3], scale := max 768 (min 1280 k), purgeRate := min 4095 p }).settingsChanged.place
          (r.answer .ok (toBytes 2 v0 ++ toBytes 2 v1 ++ toBytes 2 v2 ++ toBytes 2 v3 ++
            toBytes 2 (max 768 (min 1280 k)) ++ toBytes 2 (min 4095 p))))) ∧
  ∀ (s : State) (r : Request) (rest : List Request), Taking s .dropsSet r rest → r.body.length = 13 →
    11 < (r.body.headD 0).toNat → exec .dropsSet s = .next (s.answered rest (r.answer .badArg []))

/-- LEVELS_SET clamps each threshold to 0..1000 and out_pm to low_pm, stores the pair, stages it for an ACTIVE bay with no ink
state recomputed, and makes it active at once for any other, where a RELEASED bay's ink state is computed anew, lowers the
level seen where it is less severe, and latches nothing. The reply gives the active pair, the staged pair or absent marks, and
whether this pair was staged. That yes and no are sent as 1 and 0 is the model's reading (log 22). -/
def Obligations.LevelsSetPlaces : Prop :=
  ∀ (s : State) (r : Request) (rest : List Request) (b : Bay) (low out : Nat), Taking s .levelsSet r rest →
    low < 65536 → out < 65536 → r.body = toBytes 1 b.val ++ toBytes 2 low ++ toBytes 2 out →
    let pair : Thresholds := { low := min 1000 low, out := min (min 1000 low) (min 1000 out) }
    ∃ t : State, exec .levelsSet s = .next t ∧
      t = { s with
            requests := rest, bays := t.bays, settings := t.settings, writer := t.writer, replies := t.replies } ∧
      t.bayCfg b = { s.bayCfg b with stored := pair } ∧ (∀ c, c ≠ b → t.bayCfg c = s.bayCfg c ∧ t.bay c = s.bay c) ∧
      (∀ bd, (s.bay b).phase = .active bd →
        (t.bay b).phase = .active bd ∧ (t.bay b).staged = some pair ∧ (t.bay b).thresholds = (s.bay b).thresholds ∧
        t.replies = s.replies ++ [r.answer .ok
          (toBytes 2 (s.bay b).thresholds.low ++ toBytes 2 (s.bay b).thresholds.out ++ toBytes 2 pair.low ++
            toBytes 2 pair.out ++ [1])]) ∧
      ((s.bay b).phase.active? = none →
        (t.bay b).thresholds = pair ∧ (t.bay b).staged = (s.bay b).staged ∧
        (∀ bd, (s.bay b).phase = .released bd →
          let ink := inkOf pair bd.capacity bd.remaining
          (t.bay b).phase = .released
            { bd with
              ink := ink
              commit :=
                { bd.commit with levelSeen := if ink.code < bd.commit.levelSeen.code then ink else bd.commit.levelSeen } }) ∧
        ((s.bay b).phase.binding? = none → (t.bay b).phase = (s.bay b).phase) ∧
        ((s.bay b).staged = none →
          t.replies = s.replies ++ [r.answer .ok
            (toBytes 2 pair.low ++ toBytes 2 pair.out ++ [0xFF, 0xFF, 0xFF, 0xFF, 0])]))

/-- SENSE_SET replaces the calibration, clamped, sets the evidence counter to 0 and sets the discard flag of a running
conversion of the bay. For an ACTIVE bay the survey is wanted when a valid calibration replaces a dropped reading or an
invalid one, or when the survey timer already shows the new period. An invalid calibration ends a membership of the SURVEY_RUN
whose conversion has not been taken, and the run goes on. Phases, evidence, reinsert check and the table stay. That validity
is sent as 1 or 0 (log 22), and that the reply of a run that ends so comes before the request's own (log 18), are the model's
readings. -/
def Obligations.SenseSetCalibrates : Prop :=
  ∀ (s : State) (r : Request) (rest : List Request) (b : Bay) (e f m n p : Nat), Taking s .senseSet r rest →
    e < 65536 → f < 65536 → m < 65536 → n < 256 → p < 65536 →
    r.body = toBytes 1 b.val ++ toBytes 2 e ++ toBytes 2 f ++ toBytes 2 m ++ toBytes 1 n ++ toBytes 2 p →
    let c : Calib :=
      { empty := min 1023 e, full := min 1023 f, margin := max 20 (min 500 m), persist := max 1 (min 15 n)
        period := max 100 (min 10000 p) }
    ∃ t : State, exec .senseSet s = .next
        (t.settleConverter.place (r.answer .ok
          (toBytes 2 c.empty ++ toBytes 2 c.full ++ toBytes 2 c.margin ++ toBytes 1 c.persist ++ toBytes 2 c.period ++
            [if c.empty = c.full then 0 else 1]))) ∧
      t = { s with
            requests := rest, bays := t.bays, settings := t.settings, writer := t.writer, converter := t.converter
            run := t.run, replies := t.replies } ∧
      t.settings = { s.settings with bays := t.settings.bays } ∧
      t.bayCfg b = { s.bayCfg b with calib := c } ∧ (∀ d, d ≠ b → t.bayCfg d = s.bayCfg d) ∧
      (∀ d, (t.bay d).phase = (s.bay d).phase) ∧
      t.converter = s.converter.map (fun x => if x.channel = bayChannel b then { x with discard := true } else x) ∧
      t.bay b = { s.bay b with counter := 0, wanted := (t.bay b).wanted } ∧ OthersKept s t b ∧
      ((t.bay b).wanted = true ↔ (s.bay b).wanted = true ∨ (s.bay b).phase.active? ≠ none ∧
        (c.empty ≠ c.full ∧
            ((∃ x, s.converter = some x ∧ x.channel = bayChannel b) ∨
              (s.bayCfg b).calib.empty = (s.bayCfg b).calib.full) ∨
          ∃ ms, (s.bay b).surveyTimer = some ms ∧ c.period ≤ ms)) ∧
      (c.empty ≠ c.full ∨ s.run = none → t.run = s.run ∧ t.replies = s.replies ∧ ∀ d, d ≠ b → t.bay d = s.bay d) ∧
      ∀ run, c.empty = c.full → s.run = some run → RunGoesOn s (run.without b false) t

/-- COMMIT_SET stores the step clamped to 1..64, replies it, and evaluates the triggers of an ACTIVE bay in IDLE with no
release in progress with the new step: free pending at the step queues a COMMIT. -/
def Obligations.CommitSetStores : Prop :=
  ∀ (s : State) (r : Request) (rest : List Request) (b : Bay) (n : Nat), Taking s .commitSet r rest → n < 256 →
    r.body = toBytes 1 b.val ++ toBytes 1 n →
    let step := max 1 (min 64 n)
    ∃ t : State, exec .commitSet s = .next (t.runArbiters.place (r.answer .ok (toBytes 1 step))) ∧
      t.bayCfg b = { s.bayCfg b with commitStep := step } ∧ (∀ c, c ≠ b → t.bayCfg c = s.bayCfg c ∧ t.bay c = s.bay c) ∧
      (∀ bd, (s.bay b).phase = .active bd → bd.commit.state = .idle → bd.commit.release = none →
        step ≤ bd.acct.pending - bd.acct.inflight →
          (t.bay b).slot = some .commit ∧
          (t.bay b).phase = .active { bd with commit := { bd.commit with state := .queued, levelSeen := bd.ink } }) ∧
      (∀ bd, (s.bay b).phase = .active bd → bd.commit.state ≠ .idle ∨ bd.commit.release ≠ none → t.bay b = s.bay b) ∧
      ((s.bay b).phase.active? = none → t.bay b = s.bay b) ∧ t.latches = s.latches ∧ t.replies = s.replies ∧
      t.lanes = s.lanes ∧ t.policy = s.policy

/-- SLOT_SET, SUPPLY_SET, ROUTE_SET and MASK_SET write their one setting, mark SETTINGS dirty, trigger the writer and reply;
a kind above 12 or a level above 3 is refused. -/
def Obligations.PlainSettingsStored : Prop :=
  ∀ (s : State) (r : Request) (rest : List Request),
    (∀ (b : Bay) (code : Nat), code < 65536 → Taking s .slotSet r rest → r.body = toBytes 1 b.val ++ toBytes 2 code →
      exec .slotSet s = .next
        (((s.dequeued rest).modBayCfg b fun c => { c with slotCode := BitVec.ofNat 16 code }).settingsChanged.place
          (r.answer .ok []))) ∧
    (∀ raw : Nat, raw < 65536 → Taking s .supplySet r rest → r.body = toBytes 2 raw →
      exec .supplySet s = .next
        ((State.settingsChanged
          { s with requests := rest, settings := { s.settings with holdRaw := min 991 raw } }).place
            (r.answer .ok (toBytes 2 (min 991 raw))))) ∧
    (∀ kind level : Nat, kind < 256 → level < 256 → Taking s .routeSet r rest →
      r.body = toBytes 1 kind ++ toBytes 1 level →
      (∀ (k : Fin 13) (lv : Level), kind = k.val → level = lv.val →
        ∃ t : State, exec .routeSet s = .next (t.settingsChanged.place (r.answer .ok [])) ∧
          t = { s with requests := rest, settings := { s.settings with routing := t.settings.routing } } ∧
          t.settings.routing[k] = lv ∧ ∀ j : Fin 13, j ≠ k → t.settings.routing[j] = s.settings.routing[j]) ∧
      (12 < kind ∨ 3 < level → exec .routeSet s = .next (s.answered rest (r.answer .badArg [])))) ∧
    ∀ lm wm : Nat, lm < 256 → wm < 256 → Taking s .maskSet r rest → r.body = toBytes 1 lm ++ toBytes 1 wm →
      exec .maskSet s = .next
        ((State.settingsChanged
          { s with
            requests := rest
            settings := { s.settings with levelMask := BitVec.ofNat 4 lm, wakeMask := BitVec.ofNat 4 wm } }).place
              (r.answer .ok (toBytes 1 (lm % 16) ++ toBytes 1 (wm % 16))))

/-- A change of settings touches the store writer alone. An IDLE writer starts a walk with an empty failed set at the first
dirty section in the order TABLE, POLICY, SETTINGS, taking its working copy; a walk in progress has its failed set emptied
and goes on. -/
def Obligations.SettingsChangeTriggersWriter : Prop :=
  ∀ s : State, s.device ≠ .faulted →
    s.settingsChanged = { s with writer := s.settingsChanged.writer } ∧
    s.settingsChanged.writer.failed = Sections.empty ∧
    (∀ c, s.writer.writing = some c →
      s.settingsChanged.writer.writing = some c ∧
      s.settingsChanged.writer.dirty = { s.writer.dirty with settings := true }) ∧
    (s.writer.writing = none → s.writer.dirty.table = true →
      s.settingsChanged.writer.writing = some (.table s.table) ∧
      s.settingsChanged.writer.dirty = { s.writer.dirty with table := false, settings := true }) ∧
    (s.writer.writing = none → s.writer.dirty.table = false → s.writer.dirty.policy = true →
      s.settingsChanged.writer.writing = some (.policy s.policy) ∧
      s.settingsChanged.writer.dirty = { table := false, policy := false, settings := true }) ∧
    (s.writer.writing = none → s.writer.dirty.table = false → s.writer.dirty.policy = false →
      s.settingsChanged.writer.writing = some (.settings s.settings) ∧
      s.settingsChanged.writer.dirty = Sections.empty)

/-! ### Policy -/

/-- POLICY_SET replaces the allowed key set and the three modes of an unsealed policy, evaluates every permit line with
them, and marks POLICY dirty; a sealed policy answers SEALED, and a mode outside its list is refused sealed or not. That
POLICY is dirty also when the four values equal the present ones is the model's reading (log 20). -/
def Obligations.PolicySetReplaces : Prop :=
  ∀ (s : State) (r : Request) (rest : List Request) (allowed : Byte) (rm fm om : Nat), Taking s .policySet r rest →
    rm < 256 → fm < 256 → om < 256 → r.body = [allowed] ++ toBytes 1 rm ++ toBytes 1 fm ++ toBytes 1 om →
    (1 < rm ∨ 2 < fm ∨ 2 < om → exec .policySet s = .next (s.answered rest (r.answer .badArg []))) ∧
    (rm ≤ 1 → fm ≤ 2 → om ≤ 2 → s.policy.isSealed = true →
      exec .policySet s = .next (s.answered rest (r.answer .isSealed []))) ∧
    (∀ (x : RejectMode) (y z : PermitMode), rm = x.code → fm = y.code → om = z.code → s.policy.isSealed = false →
      ∃ t : State, exec .policySet s = .next t ∧
        t = { s with
              requests := rest, policy := t.policy, writer := t.writer, bays := t.bays, replies := t.replies } ∧
        t.policy = { isSealed := false, allowed := allowed, rejectMode := x, refillMode := y, outMode := z } ∧
        t.replies = s.replies ++
          [r.answer .ok [BitVec.ofNat 8 (2 * x.code + 4 * y.code + 16 * z.code), allowed]] ∧
        (∀ b, t.bay b = { s.bay b with line := (s.bay b).line.evaluate ((s.bay b).phase.target t.policy) }) ∧
        (t.writer.dirty.policy = true ∨ t.writer.writing = some (.policy t.policy)))

/-- SEAL sets the sealed flag of an unsealed policy, the seal mark, and the revoked mark of every slot outside the allowed
key set; sealed, it answers SEALED. KEY_REVOKE takes the index out of the allowed key set, sealed or not, sets its revoked
mark when sealed, replies the set, and leaves policy, bays and writer alone when the index was already outside; an index
above 7 is refused. Each change of the policy makes POLICY dirty, triggers the writer and evaluates every permit line. -/
def Obligations.SealAndRevoke : Prop :=
  ∀ (s : State) (r : Request) (rest : List Request),
    (Taking s .seal r rest → r.body = [] → s.policy.isSealed = true →
      exec .seal s = .next (s.answered rest (r.answer .isSealed []))) ∧
    (Taking s .seal r rest → r.body = [] → s.policy.isSealed = false →
      ∃ t : State, exec .seal s = .next t ∧
        t = { s with
              requests := rest, policy := t.policy, oneWay := t.oneWay, writer := t.writer, bays := t.bays
              replies := s.replies ++ [r.answer .ok []] } ∧
        t.policy = { s.policy with isSealed := true } ∧
        t.oneWay = { sealMark := true, revoked := s.oneWay.revoked ||| ~~~s.policy.allowed } ∧
        PolicyFlushed s t ∧ LinesEvaluated s t) ∧
    (∀ k : KeySlot, Taking s .keyRevoke r rest → r.body = toBytes 1 k.val →
      ∃ t : State, exec .keyRevoke s = .next t ∧
        t = { s with
              requests := rest, policy := t.policy, oneWay := t.oneWay, writer := t.writer, bays := t.bays
              replies := s.replies ++ [r.answer .ok [t.policy.allowed]] } ∧
        t.policy = { s.policy with allowed := t.policy.allowed } ∧
        (∀ j : KeySlot, t.policy.allowed.getLsbD j.val = (s.policy.allowed.getLsbD j.val && j != k)) ∧
        t.oneWay.sealMark = s.oneWay.sealMark ∧
        (∀ j : KeySlot, t.oneWay.revoked.getLsbD j.val =
          (s.oneWay.revoked.getLsbD j.val || (s.policy.isSealed && j == k))) ∧
        (s.policy.allowed.getLsbD k.val = true → PolicyFlushed s t ∧ LinesEvaluated s t) ∧
        (s.policy.allowed.getLsbD k.val = false → t.writer = s.writer ∧ t.policy = s.policy ∧ t.bays = s.bays)) ∧
    ∀ n : Nat, 7 < n → n < 256 → Taking s .keyRevoke r rest → r.body = toBytes 1 n →
      exec .keyRevoke s = .next (s.answered rest (r.answer .badArg []))

/-- In every step, no mark of the one-way area is ever cleared; once the load has ended the seal mark keeps the policy
sealed; and a sealed policy stays sealed with its modes, its allowed key set only losing members, until a cold start. -/
def Obligations.SealIsOneWay : Prop :=
  ∀ s s' : State, step s = .next s' →
    s.oneWay.LeadsTo s'.oneWay ∧ (SealHolds s → SealHolds s') ∧
    (s.device ≠ .starting → s'.device ≠ .starting → s.policy.isSealed = true →
      s'.policy = { s.policy with allowed := s'.policy.allowed } ∧ s'.policy.allowed &&& ~~~s.policy.allowed = 0)

/-! ### Bays and commits -/

/-- BAY_RECHECK of an ACTIVE, REJECTED or RELEASED bay: it becomes IDENTIFYING with IDENTIFY in its slot and its line
inhibits; a binding is closed with its pending ink as owed and its flight as unsure target in the entry, which then names no
bay; a running operation is abandoned. In any other state it answers BAY_STATE. That the request's own reply comes after those
of the release and the run that it ends is the model's reading (log 18). -/
def Obligations.BayRecheckIdentifies : Prop :=
  ∀ (s : State) (r : Request) (rest : List Request) (b : Bay), Taking s .bayRecheck r rest → r.body = toBytes 1 b.val →
    ((s.bay b).phase.binding? ≠ none ∨ (∃ reason d, (s.bay b).phase = .rejected reason d) →
      ∃ t : State, exec .bayRecheck s = .next (t.runArbiters.place (r.answer .ok [])) ∧
        (t.bay b).phase = .identifying ∧ (t.bay b).slot = some .identify ∧ (t.bay b).line = .inhibit ∧
        (t.bay b).filter = (s.bay b).filter ∧ t.latches = s.latches ∧
        OthersKept s t b ∧
        (∀ x, (s.lane (laneOf b)).running = some x → x.position = positionOf b →
          (t.lane (laneOf b)).running = some { x with abandoned := true }) ∧
        (∀ bd, (s.bay b).phase.binding? = some bd →
          t.table = s.table.map fun e =>
            if e.bay = some b then
              { e with
                owed := bd.acct.pending
                unsure := bd.commit.state.target?.map fun T => { target := T, amount := bd.acct.inflight }
                bay := none }
            else e) ∧
        ((s.bay b).phase.binding? = none → t.table = s.table)) ∧
    ((s.bay b).phase.binding? = none → (∀ reason d, (s.bay b).phase ≠ .rejected reason d) →
      exec .bayRecheck s = .next (s.answered rest (r.answer .bayState [])))

/-- BAY_RELEASE by the commit state it finds: at once OK in IDLE with nothing pending, FINAL placed in IDLE with ink
pending, a queued COMMIT upgraded, a running operation waited for, and at once COMMIT_UNCERTAIN in UNCERTAIN and STOPPED; a
second release answers BUSY, a bay that is not ACTIVE answers BAY_STATE. -/
def Obligations.BayReleaseByCommitState : Prop :=
  ∀ (s : State) (r : Request) (rest : List Request) (b : Bay), Taking s .bayRelease r rest → r.body = toBytes 1 b.val →
    ((s.bay b).phase.active? = none → exec .bayRelease s = .next (s.answered rest (r.answer .bayState []))) ∧
    ∀ bd, (s.bay b).phase = .active bd →
      (bd.commit.release ≠ none → exec .bayRelease s = .next (s.answered rest (r.answer .busy []))) ∧
      (bd.commit.release = none →
        ∃ t : State, exec .bayRelease s = .next t.runArbiters ∧
          OthersKept s t b ∧
          (bd.commit.state = .idle → bd.acct.pending = 0 →
            (∃ bd', (t.bay b).phase = .released bd' ∧ bd'.commit.state = .idle ∧ bd'.commit.release = none ∧
              bd'.acct.fine = 0 ∧ bd'.acct.credited = bd.acct.credited + bd.acct.fine ∧ bd'.draw.remainder = 0) ∧
            (t.bay b).slot = none ∧ (t.bay b).line = .inhibit ∧
            (s.run = none → t.replies = s.replies ++ [r.answer .ok []])) ∧
          (bd.commit.state = .idle → 0 < bd.acct.pending →
            (t.bay b).slot = some .final ∧
            (t.bay b).phase = .active
              { bd with
                commit :=
                  { bd.commit with state := .queued, release := some { ticket := r.ticket, reserved := true } } } ∧
            t.replies = s.replies) ∧
          (bd.commit.state = .queued →
            (t.bay b).slot = some .final ∧
            (t.bay b).phase = .active
              { bd with
                commit := { bd.commit with release := some { ticket := r.ticket, reserved := true } } } ∧
            t.replies = s.replies) ∧
          (∀ T fin, bd.commit.state = .inFlight T fin ∨ bd.commit.state = .reconciling T fin →
            (t.bay b).slot = (s.bay b).slot ∧
            (t.bay b).phase = .active
              { bd with
                commit := { bd.commit with release := some { ticket := r.ticket, reserved := true } } } ∧
            t.replies = s.replies) ∧
          (∀ T, bd.commit.state = .stopped ∨ bd.commit.state = .uncertain T →
            (∃ bd', (t.bay b).phase = .released bd' ∧ bd'.commit.state = bd.commit.state ∧
              bd'.acct.pending = bd.acct.pending ∧ bd'.acct.inflight = bd.acct.inflight) ∧
            (s.run = none → t.replies = s.replies ++ [r.answer .commitUncertain []])))

/-- BAY_DISABLE leaves a bay OFF, unbound, with its filter stopped, its disabled flag set and no latch at its site, the
site's pairs gone from every service copy; a running operation is abandoned, a binding is closed into its entry, and a
release is answered BAY_STATE before the request's own reply (the order is the model's, log 18); a bay already OFF is left
as it is. BAY_ENABLE makes an OFF bay VACANT with its filter started and its flag clear; any other answers BAY_STATE. -/
def Obligations.BayDisabledAndEnabled : Prop :=
  ∀ (s : State) (r : Request) (rest : List Request) (b : Bay),
    (Taking s .bayDisable r rest → r.body = toBytes 1 b.val → (s.bay b).phase = .off →
      exec .bayDisable s = .next (s.answered rest (r.answer .ok []))) ∧
    (Taking s .bayDisable r rest → r.body = toBytes 1 b.val → (s.bay b).phase ≠ .off →
      ∃ t : State, exec .bayDisable s = .next t ∧ (t.bay b).phase = .off ∧ (t.bay b).slot = none ∧ (t.bay b).line = .inhibit ∧
        (t.bay b).filter = { level := .absent, window := none } ∧ (t.bayCfg b).disabled = true ∧
        (∀ k, t.latchOf (baySite b) k = none) ∧
        (∀ site, site ≠ baySite b → ∀ k, t.latchOf site k = s.latchOf site k) ∧
        (∀ lv : Level, t.service[lv] = s.service[lv].map fun pairs => pairs.filter fun p => p.site != baySite b) ∧
        OthersKept s t b ∧ (∀ c, c ≠ b → t.bayCfg c = s.bayCfg c) ∧
        (∀ e ∈ t.table, e.bay ≠ some b ∨ (s.bay b).phase.binding? = none) ∧
        (∀ bd, (s.bay b).phase.binding? = some bd → t.table = tableUnbound s.table b bd) ∧
        ((s.bay b).phase.binding? = none → t.table = s.table) ∧
        (t.lane (laneOf b)).running =
          (s.lane (laneOf b)).running.map (fun x =>
            if x.position = positionOf b then { x with abandoned := true } else x) ∧
        (∀ l, l ≠ laneOf b → (t.lane l).running = (s.lane l).running) ∧
        (s.run = none → ((s.bay b).phase.binding?.bind (·.commit.release)) = none →
          t.replies = s.replies ++ [r.answer .ok []]) ∧
        (s.run = none → ∀ bd rel, (s.bay b).phase.binding? = some bd → bd.commit.release = some rel →
          t.replies = s.replies ++
            (if rel.reserved then [{ ticket := rel.ticket, kind := 0x41, result := .bayState, body := [] }] else []) ++
              [r.answer .ok []]) ∧
        t.replies.getLast? = some (r.answer .ok [])) ∧
    (Taking s .bayEnable r rest → r.body = toBytes 1 b.val → (s.bay b).phase = .off →
      ∃ t : State, exec .bayEnable s = .next t ∧
        t = { s with
              requests := rest, bays := t.bays, settings := t.settings, writer := t.writer
              replies := s.replies ++ [r.answer .ok []] } ∧
        t.bay b =
          { s.bay b with
            phase := .vacant, slot := none, line := .inhibit
            filter :=
              { level := .absent
                window := if s.raw[b] = .seated then some { level := .seated, ms := 0 } else none } } ∧
        t.bayCfg b = { s.bayCfg b with disabled := false } ∧
        ∀ c, c ≠ b → t.bay c = s.bay c ∧ t.bayCfg c = s.bayCfg c) ∧
    (Taking s .bayEnable r rest → r.body = toBytes 1 b.val → (s.bay b).phase ≠ .off →
      exec .bayEnable s = .next (s.answered rest (r.answer .bayState [])))

/-- COMMIT_RETRY of an ACTIVE bay in UNCERTAIN places RECONCILE and makes the state RECONCILING with the target and the flight
kept; in any other state it answers BAY_STATE. That the reconcile counts as that of a COMMIT is the model's own mark (log 27). -/
def Obligations.CommitRetryReconciles : Prop :=
  ∀ (s : State) (r : Request) (rest : List Request) (b : Bay), Taking s .commitRetry r rest → r.body = toBytes 1 b.val →
    (∀ bd T, (s.bay b).phase = .active bd → bd.commit.state = .uncertain T →
      ∃ t : State, exec .commitRetry s = .next (t.runArbiters.place (r.answer .ok [])) ∧ (t.bay b).slot = some .reconcile ∧
        (t.bay b).phase = .active { bd with commit := { bd.commit with state := .reconciling T false } } ∧
        (∀ c, c ≠ b → t.bay c = s.bay c) ∧ t.latches = s.latches ∧ t.replies = s.replies ∧
        (s.save = .none → t.table = s.table ∧ t.writer = s.writer)) ∧
    ((∀ bd T, (s.bay b).phase = .active bd → bd.commit.state ≠ .uncertain T) →
      exec .commitRetry s = .next (s.answered rest (r.answer .bayState [])))

/-! ### Survey run, store, restart, doze, notices -/

/-- SURVEY_RUN with a run in progress answers BUSY. Otherwise the run forms with its first pass: each named bay that is ACTIVE
with a valid calibration is a member and wanted, the others named are skipped; with no such bay all passes run at once and the
reply holds no result. A member ends at the conversion taken for it, which gives its result when it is kept, or skipped when
its bay leaves ACTIVE before that; a removal drops the bay. With the last member the pass ends, and the next one starts or the
run ends with its reply. That a run which a BAY_RECHECK ends is answered before the request's own reply is the model's reading
(log 18). -/
def Obligations.SurveyRunStarts : Prop :=
  ∀ (s : State) (r : Request) (rest : List Request),
    (∀ named passes : Nat, Taking s .surveyRun r rest →
      named < 65536 → passes < 256 → r.body = toBytes 2 named ++ toBytes 1 passes →
      (s.run ≠ none → exec .surveyRun s = .next (s.answered rest (r.answer .busy []))) ∧
      (s.run = none → (∃ b : Bay, named.testBit b.val = true ∧ s.surveyable b = true) →
        ∃ (t : State) (run : SurveyRun), exec .surveyRun s = .next t.settleConverter ∧ t.run = some run ∧ run.ticket = r.ticket ∧
          run.passesRun = 1 ∧ run.passesLeft = max 1 passes - 1 ∧ t.replies = s.replies ∧
          (∀ b : Bay, run.listed[b] = named.testBit b.val ∧ run.results[b] = none ∧
            run.members[b] = (if named.testBit b.val && s.surveyable b then some false else none) ∧
            run.skipped[b] = (named.testBit b.val && !s.surveyable b) ∧
            (t.bay b).wanted = ((s.bay b).wanted || (named.testBit b.val && s.surveyable b)) ∧
            (t.bay b).phase = (s.bay b).phase)) ∧
      (s.run = none → (∀ b : Bay, named.testBit b.val = true → s.surveyable b = false) →
        ∃ t : State, exec .surveyRun s = .next t.settleConverter ∧ t = s.answered rest
          (r.answer .ok (toBytes 1 (max 1 passes) ++ toBytes 2 (named % 4096) ++ List.replicate 48 0xFF)))) ∧
    (∀ (raw : BitVec 10) (b : Bay) (discard : Bool) (run : SurveyRun), s.run = some run →
      s.converter = some { channel := bayChannel b, discard := discard } →
      let kept := discard = false ∧ (s.bay b).phase.active? ≠ none
      let ended : SurveyRun :=
        { run with
          members := put run.members b none
          results :=
            if kept then put run.results b (some (raw.toNat, sensedLevel (s.bayCfg b).calib raw.toNat)) else run.results }
      ∃ t : State, exec (.conversionComplete raw) s = .next t.settleConverter ∧
        RunGoesOn s (if run.members[b] = some true then ended else run) t) ∧
    (∀ (b : Bay) (ms : Nat) (bd : Binding) (run : SurveyRun), s.run = some run → (s.bay b).phase = .active bd →
      bd.commit.release = none → (s.bay b).filter.window = some { level := .absent, ms := ms } → 5 ≤ ms →
        ∃ t : State, exec (.presenceWindowExpiry b) s = .next t.runArbiters ∧ RunGoesOn s (run.without b true) t) ∧
    ∀ (b : Bay) (bd : Binding) (run : SurveyRun), Taking s .bayRecheck r rest → r.body = toBytes 1 b.val →
      s.run = some run → (s.bay b).phase = .active bd → bd.commit.release = none →
        ∃ t : State, exec .bayRecheck s = .next (t.runArbiters.place (r.answer .ok [])) ∧
          RunGoesOn s (run.without b false) t

/-- STORE_SAVE evaluates the triggers of every bay with a threshold of 1 tu and waits for the end of the walk. With the writer
IDLE and nothing dirty the walk ends at the take and the reply is OK; with a walk in progress the request waits. That the lane
arbiters run after the walk has been triggered is the model's reading (logs 13, 15). -/
def Obligations.StoreSaveWaits : Prop :=
  ∀ (s : State) (r : Request) (rest : List Request), Taking s .storeSave r rest → r.body = [] →
    ∃ t : State, exec .storeSave s = .next t.runArbiters ∧
      (∀ b bd, (s.bay b).phase = .active bd → bd.commit.state = .idle → bd.commit.release = none →
        1 ≤ bd.acct.pending - bd.acct.inflight → s.waiters = [] →
          (t.bay b).slot = some .commit ∧
          (t.bay b).phase = .active { bd with commit := { bd.commit with state := .queued, levelSeen := bd.ink } }) ∧
      (s.save = .none → s.waiters = [] → s.writer.writing = none → s.writer.dirty = Sections.empty →
        t.replies = s.replies ++ [r.answer .ok []] ∧ t.waiters = [] ∧ t.writer.writing = none) ∧
      (∀ c, s.writer.writing = some c →
        t.replies = s.replies ∧
        t.waiters = s.waiters ++ [{ isRestart := false, ticket := r.ticket, reserved := true }] ∧
        t.writer.writing = some c ∧ t.writer.failed = Sections.empty) ∧
      (s.save = .none → s.writer.writing = none → s.writer.dirty.table = false → s.writer.dirty.policy = false →
        s.writer.dirty.settings = true →
          t.writer.writing = some (.settings s.settings) ∧ t.replies = s.replies)

/-- RESTART. In FAULTED it is answered OK at the take; while another is in progress it is answered BUSY. Otherwise it is in
progress: every bound bay's entry takes its shadow values, the save state becomes SAVING unless SAVED, the store writer works,
and the reply waits. That the lane arbiters run after the writer has been triggered is the model's reading (logs 13, 15). -/
def Obligations.RestartSaves : Prop :=
  ∀ (s : State) (r : Request) (rest : List Request), s.requests = r :: rest → r.kind = 0x52 → r.body = [] →
    (s.device = .faulted → exec .restart s = .next (s.answered rest (r.answer .ok []))) ∧
    (s.device = .running → s.restarting = true → exec .restart s = .next (s.answered rest (r.answer .busy []))) ∧
    (s.device = .running → s.restarting = false →
      ∃ t : State, exec .restart s = .next t.runArbiters ∧ t.restarting = true ∧ t.device = .running ∧
        t.save = (if s.save = .saved then .saved else .saving) ∧ t.replies = s.replies ∧
        t.waiters = s.waiters ++ [{ isRestart := true, ticket := r.ticket, reserved := true }] ∧
        t.writer.writing ≠ none ∧ t.writer.failed = Sections.empty ∧
        (s.writer.writing = none → s.save = .none → t.writer.writing = some (.table t.table)) ∧
        (∀ e ∈ t.table, ∀ b bd, e.bay = some b → (t.bay b).phase.binding? = some bd →
          e.owed = bd.acct.pending ∧
          e.unsure = bd.commit.state.target?.map fun T => { target := T, amount := bd.acct.inflight }))

/-- DOZE is answered OK and leaves the doze to the delivery of that reply. NOTICE_DONE completes the service of its level:
flag and copy go, the reply is OK, and the level is offerable when latches wait at it, it is not masked and no more urgent
level is in service; a level not in service answers BAY_STATE, one above 3 is refused, and in FAULTED it answers FAULTED. -/
def Obligations.DozeAndNoticeDone : Prop :=
  ∀ (s : State) (r : Request) (rest : List Request),
    (Taking s .doze r rest → r.body = [] → exec .doze s = .next (s.answered rest (r.answer .ok []))) ∧
    (∀ lv : Level, Taking s .noticeDone r rest → r.body = toBytes 1 lv.val →
      (∀ pairs, s.service[lv] = some pairs →
        ∃ t : State, exec .noticeDone s = .next t ∧
          t = { s with requests := rest, service := t.service, replies := s.replies ++ [r.answer .ok []] } ∧
          t.service[lv] = none ∧ (∀ m : Level, m ≠ lv → t.service[m] = s.service[m]) ∧
          ∀ m : Level, t.offerable m = true ↔
            t.latchedPairs m ≠ [] ∧ t.settings.levelMask.getLsbD m.val = false ∧ t.service[m] = none ∧
              ∀ j : Level, j < m → t.service[j] = none) ∧
      (s.service[lv] = none → exec .noticeDone s = .next (s.answered rest (r.answer .bayState [])))) ∧
    (∀ n : Nat, 3 < n → n < 256 → Taking s .noticeDone r rest → r.body = toBytes 1 n →
      exec .noticeDone s = .next (s.answered rest (r.answer .badArg []))) ∧
    (s.device = .faulted → s.requests = r :: rest → r.kind = 0x54 →
      exec .noticeDone s = .next (s.answered rest (r.answer .faulted [])))

/-! ### Presence inputs -/

/-- RAW_PRESENCE_CHANGE opens a window from 0 ms when the new level differs from the filtered one and removes it otherwise;
in OFF only the input changes, and the level the input had is no change (log 33). PRESENCE_WINDOW_EXPIRY of a window that
has lasted 50 ms for SEATED or 5 ms for ABSENT sets the filtered level. An insertion makes a VACANT bay SEATED with IDENTIFY
in its slot and latches SEATED; a removal makes any bay but OFF and VACANT VACANT, abandons its operation, closes its
binding into its entry, answers its release BAY_STATE and latches VACATED. A window that has not lasted changes nothing
(log 2). -/
def Obligations.PresenceFiltered : Prop :=
  (∀ (s : State) (b : Bay) (lv : Presence),
    (s.raw[b] = lv → exec (.rawPresenceChange b lv) s = .next s) ∧
    (s.raw[b] ≠ lv →
      ∃ t : State, exec (.rawPresenceChange b lv) s = .next t ∧ t = { s with raw := t.raw, bays := t.bays } ∧
        t.raw[b] = lv ∧ (∀ c, c ≠ b → t.raw[c] = s.raw[c] ∧ t.bay c = s.bay c) ∧
        ((s.bay b).phase = .off → t.bay b = s.bay b) ∧
        ((s.bay b).phase ≠ .off →
          t.bay b =
            { s.bay b with
              filter :=
                { level := (s.bay b).filter.level
                  window := if lv = (s.bay b).filter.level then none else some { level := lv, ms := 0 } } }))) ∧
  ∀ (s : State) (b : Bay) (lv : Presence) (ms : Nat), (s.bay b).filter.window = some { level := lv, ms := ms } →
    (ms < (if lv = .seated then 50 else 5) → exec (.presenceWindowExpiry b) s = .next s) ∧
    ((if lv = .seated then 50 else 5) ≤ ms →
      ∃ t : State, exec (.presenceWindowExpiry b) s = .next t.runArbiters ∧
        (t.bay b).filter = { level := lv, window := none } ∧
        OthersKept s t b ∧
        (lv = .seated → (s.bay b).phase = .vacant →
          (t.bay b).phase = .seated ∧ (t.bay b).slot = some .identify ∧ (t.bay b).line = .inhibit ∧
          t.latchOf (baySite b) Kind.seated.code ≠ none ∧ t.table = s.table ∧ t.replies = s.replies) ∧
        (lv = .seated ∧ (s.bay b).phase ≠ .vacant ∨
            lv = .absent ∧ ((s.bay b).phase = .off ∨ (s.bay b).phase = .vacant) →
          t = s.modBay b fun x => { x with filter := { level := lv, window := none } }) ∧
        (lv = .absent → (s.bay b).phase ≠ .off → (s.bay b).phase ≠ .vacant →
          (t.bay b).phase = .vacant ∧ (t.bay b).slot = none ∧ (t.bay b).line = .inhibit ∧
          t.latchOf (baySite b) Kind.vacated.code ≠ none ∧
          (∀ x, (s.lane (laneOf b)).running = some x → x.position = positionOf b →
            (t.lane (laneOf b)).running = some { x with abandoned := true }) ∧
          (∀ bd, (s.bay b).phase.binding? = some bd → t.table = tableUnbound s.table b bd) ∧
          ((s.bay b).phase.binding? = none → t.table = s.table) ∧
          ∀ bd rel, (s.bay b).phase.binding? = some bd → bd.commit.release = some rel → rel.reserved = true →
            s.run = none →
              t.replies = s.replies ++ [{ ticket := rel.ticket, kind := 0x41, result := .bayState, body := [] }]))

/-! ### Lanes -/

/-- LANE_COMMAND_END starts the reply timer at 0 ms. REPLY_TIMER_EXPIRY before 25 ms, a TAG_REPLY on a lane with no timer, and
one whose length, position or frame check is wrong leave the lane as it is. A transaction of an abandoned operation frees the
lane at its reply or expiry. Each further attempt draws a fresh nonce for a CHALLENGE and none for a READ_RECORD. That a reply
still counts while the timer stands at 25 ms is the model's reading (log 12). That a draw is numbered (log 11), that a timer
is absent while its command is sent (log 28), and that an expiry before its time or with no timer and an end of sending with
nothing to send change nothing (logs 2, 29), are the model's choices. -/
def Obligations.LaneTransactionsTimed : Prop :=
  ∀ (s : State) (l : Lane),
    ((s.lane l).running = none → ∀ bytes,
      exec (.laneCommandEnd l) s = .next s.settleConverter ∧ exec (.replyTimerExpiry l) s = .next s.settleConverter ∧
        exec (.tagReply l bytes) s = .next s.settleConverter) ∧
    (∀ x bytes, (s.lane l).running = some x → x.timer = none →
      exec (.laneCommandEnd l) s =
          .next (s.modLane l fun y => { y with running := some { x with timer := some 0 } }).settleConverter ∧
        exec (.replyTimerExpiry l) s = .next s.settleConverter ∧
        exec (.tagReply l bytes) s = .next s.settleConverter) ∧
    (∀ x ms, (s.lane l).running = some x → x.timer = some ms →
      (ms < 25 → exec (.replyTimerExpiry l) s = .next s.settleConverter) ∧
      (∀ bytes, ¬(bytes.length = (if x.step = .readRecord then 22 else 21) ∧ bytes.take 1 = toBytes 1 x.position.val ∧
          bytes.getLast? = some (crc8 bytes.dropLast)) →
        exec (.tagReply l bytes) s = .next s.settleConverter) ∧
      (25 ≤ ms → x.abandoned = true →
        exec (.replyTimerExpiry l) s =
          .next ((s.modLane l fun y => { y with running := none }).arbitrate l).settleConverter) ∧
      (∀ bytes, x.abandoned = true → replyFrameOk x.step x.position bytes = true →
        exec (.tagReply l bytes) s =
          .next ((s.modLane l fun y => { y with running := none }).arbitrate l).settleConverter)) ∧
    ∀ x ms, (s.lane l).running = some x → x.timer = some ms → 25 ≤ ms → x.abandoned = false → x.attempt < 3 →
      (x.step = .readRecord →
        exec (.replyTimerExpiry l) s =
          .next (s.modLane l fun y =>
            { y with
              running := some
                { x with
                  attempt := x.attempt + 1, timer := none, nonce := none
                  command := withCheck (toBytes 1 x.position.val ++ [0x01]) } }).settleConverter) ∧
      (x.step = .challenge →
        exec (.replyTimerExpiry l) s =
          .next (({ s with nonceDraws := s.nonceDraws + 1 } : State).modLane l fun y =>
            { y with
              running := some
                { x with
                  attempt := x.attempt + 1, timer := none, nonce := some (Config.nonce s.nonceDraws)
                  command :=
                    withCheck (toBytes 1 x.position.val ++ [0x02] ++
                      toBytes 16 (Config.nonce s.nonceDraws).toNat) } }).settleConverter)

/-- The last expiry of a transaction ends the operation. IDENTIFY: REJECTED, RECORD_INVALID when a valid reply held a bad
record and NO_REPLY otherwise. A CHALLENGE of a COMMIT, FINAL or RECONCILE: UNCERTAIN with the flight kept and COMMIT_FAULT,
and a release in progress makes the bay RELEASED with COMMIT_UNCERTAIN. An ADVANCE: RECONCILING with RECONCILE in the slot.
Then the lane is freed. The mark of a FINAL that the commit record keeps is the model's reading (log 27). -/
def Obligations.NoReplyOutcomes : Prop :=
  ∀ (s : State) (l : Lane) (x : Running) (ms : Nat), (s.lane l).running = some x → x.timer = some ms → 25 ≤ ms →
    x.abandoned = false →
    let b := bayAt l x.position
    (x.step = .readRecord → 3 ≤ x.attempt →
      ∃ t : State, exec (.replyTimerExpiry l) s = .next (t.freeLane l).settleConverter ∧
        Rejects s t l b (if x.badRecord then .recordInvalid else .noReply)) ∧
    (x.step = .challenge → 3 ≤ x.attempt → x.op = .identify →
      ∃ t : State, exec (.replyTimerExpiry l) s = .next (t.freeLane l).settleConverter ∧ Rejects s t l b .noReply) ∧
    (x.step = .challenge → 3 ≤ x.attempt → x.op ≠ .identify →
      ∀ bd T, (s.bay b).phase = .active bd → bd.commit.state.target? = some T →
        ∃ t : State, exec (.replyTimerExpiry l) s = .next (t.freeLane l).settleConverter ∧ OthersKept s t b ∧
          t.latchOf (baySite b) Kind.commitFault.code ≠ none ∧
          (bd.commit.release = none →
            (t.bay b).phase = .active { bd with commit := { bd.commit with state := .uncertain T } } ∧
            (t.bay b).slot = (s.bay b).slot ∧ t.replies = s.replies) ∧
          ∀ rel, bd.commit.release = some rel →
            (∃ bd', (t.bay b).phase = .released bd' ∧ bd'.commit.state = .uncertain T ∧
              bd'.acct.inflight = bd.acct.inflight) ∧
            (rel.reserved = true → s.run = none →
              t.replies = s.replies ++
                [{ ticket := rel.ticket, kind := 0x41, result := .commitUncertain, body := [] }])) ∧
    (x.step = .advance →
      ∀ bd T fin, (s.bay b).phase = .active bd → bd.commit.state = .inFlight T fin →
        ∃ t : State, exec (.replyTimerExpiry l) s = .next (t.freeLane l).settleConverter ∧ OthersKept s t b ∧
          (t.bay b).slot = some .reconcile ∧
          (t.bay b).phase = .active { bd with commit := { bd.commit with state := .reconciling T fin } } ∧
          t.latches = s.latches ∧ t.replies = s.replies)

/-- A READ_RECORD reply is read field by field. A record check that does not cover the record asks again, and on the third
attempt rejects with RECORD_INVALID; so do a key index above 7, a capacity of 0 and an empty key slot at once. A key slot
outside the allowed key set rejects with KEY_REVOKED. Any other record goes on to CHALLENGE. That a reply counts while the
timer stands at 25 ms is the model's reading (log 12), and that draws are numbered is its choice (log 11). -/
def Obligations.RecordReplyJudged : Prop :=
  ∀ (s : State) (l : Lane) (x : Running) (serial : Serial) (product : Code) (capacity counter key week : Nat),
    Awaiting s l x → x.step = .readRecord → capacity < 2 ^ 24 → counter < 2 ^ 24 → key < 256 → week < 65536 →
    let b := bayAt l x.position
    let covered := toBytes 8 serial.toNat ++ toBytes 2 product.toNat ++ toBytes 3 capacity ++ toBytes 3 counter ++
      toBytes 1 key ++ toBytes 2 week
    let reply := fun check : Byte => withCheck (toBytes 1 x.position.val ++ covered ++ [check])
    (∀ check, check ≠ crc8 covered → x.attempt < 3 →
      exec (.tagReply l (reply check)) s =
        .next (s.modLane l fun y =>
          { y with
            running := some
              { x with
                attempt := x.attempt + 1, timer := none, nonce := none, badRecord := true
                command := withCheck (toBytes 1 x.position.val ++ [0x01]) } }).settleConverter) ∧
    (∀ check, check ≠ crc8 covered → 3 ≤ x.attempt →
      ∃ t : State, exec (.tagReply l (reply check)) s = .next (t.freeLane l).settleConverter ∧
        Rejects s t l b .recordInvalid) ∧
    (7 < key ∨ capacity = 0 ∨ (∀ k : KeySlot, k.val = key → s.masterKeys[k] = none) →
      ∃ t : State, exec (.tagReply l (reply (crc8 covered))) s = .next (t.freeLane l).settleConverter ∧
        Rejects s t l b .recordInvalid) ∧
    ∀ k : KeySlot, k.val = key → capacity ≠ 0 → s.masterKeys[k] ≠ none →
      (s.policy.allowed.getLsbD k.val = false →
        ∃ t : State, exec (.tagReply l (reply (crc8 covered))) s = .next (t.freeLane l).settleConverter ∧
          Rejects s t l b .keyRevoked) ∧
      (s.policy.allowed.getLsbD k.val = true →
        exec (.tagReply l (reply (crc8 covered))) s =
          .next (({ s with nonceDraws := s.nonceDraws + 1 } : State).modLane l fun y =>
            { y with
              running := some
                { x with
                  step := .challenge, attempt := 1, timer := none, nonce := some (Config.nonce s.nonceDraws)
                  record := some
                    { serial := serial, product := product, capacity := capacity, counter := counter, keyIndex := key
                      fillWeek := week }
                  command :=
                    withCheck (toBytes 1 x.position.val ++ [0x02] ++
                      toBytes 16 (Config.nonce s.nonceDraws).toNat) } }).settleConverter)

/-- A CHALLENGE reply in IDENTIFY whose response is not the one the slot's master key gives rejects with BAD_RESPONSE. With
the right one, a product code that does not fit rejects with WRONG_INK, and a serial bound at another bay with
DUPLICATE_SERIAL, which marks and notifies the holder. That a reply counts while the timer stands at 25 ms is the model's
reading (log 12). -/
def Obligations.IdentifyChallengeJudged : Prop :=
  ∀ (s : State) (l : Lane) (x : Running) (rec' : TagRecord) (k : KeySlot) (n response : Key) (c : Nat),
    Awaiting s l x → x.step = .challenge → x.op = .identify → x.record = some rec' → rec'.keyIndex = k.val →
    x.nonce = some n → c < 2 ^ 24 →
    let b := bayAt l x.position
    let reply := counterReply x.position c response
    ((∀ master, s.masterKeys[k] = some master → response ≠ tagResponse master rec'.serial n c) →
      ∃ t : State, exec (.tagReply l reply) s = .next (t.freeLane l).settleConverter ∧
        Rejects s t l b .badResponse) ∧
    ∀ master, s.masterKeys[k] = some master → response = tagResponse master rec'.serial n c →
      ((s.bayCfg b).slotCode ≠ 0xFFFF → (s.bayCfg b).slotCode ≠ rec'.product →
        ∃ t : State, exec (.tagReply l reply) s = .next (t.freeLane l).settleConverter ∧ Rejects s t l b .wrongInk) ∧
      ((s.bayCfg b).slotCode = 0xFFFF ∨ (s.bayCfg b).slotCode = rec'.product →
        ∀ h bd, h ≠ b → (s.bay h).phase.binding? = some bd → bd.serial = rec'.serial →
          (∀ j, j < h → j ≠ b → ∀ bd', (s.bay j).phase.binding? = some bd' → bd'.serial ≠ rec'.serial) →
          ∃ t : State, exec (.tagReply l reply) s = .next (t.freeLane l).settleConverter ∧
            (t.bay b).phase = .rejected .duplicateSerial DrawFigures.zero ∧ (∀ j, j ≠ b → t.bay j = s.bay j) ∧
            t.latchOf (baySite b) Kind.rejected.code ≠ none ∧ t.latchOf (baySite h) Kind.duplicate.code ≠ none ∧
            t.table = s.table.map fun e => if e.bay = some h then { e with cloneSeen := true } else e)

/-- Binding: an authentic CHALLENGE of a fitting cartridge that no other bay holds makes the bay ACTIVE. Pending is the owed
ink less an unsure flight that took, cut to the room left; evidence comes from the counter and the mark; the entry comes to
the front, settled and naming the bay, with the pending ink as owed while the save runs; a new entry in a full table evicts
the last one that names no bay; BOUND, and REFILL with evidence, are latched; a survey is wanted. That a reply counts while
the timer stands at 25 ms is the model's reading (log 12). -/
def Obligations.IdentifyBinds : Prop :=
  ∀ (s : State) (l : Lane) (x : Running) (rec' : TagRecord) (k : KeySlot) (n master : Key) (c : Nat),
    Awaiting s l x → x.step = .challenge → x.op = .identify → x.record = some rec' → rec'.keyIndex = k.val →
    x.nonce = some n → c < 2 ^ 24 → s.masterKeys[k] = some master →
    let b := bayAt l x.position
    ((s.bayCfg b).slotCode = 0xFFFF ∨ (s.bayCfg b).slotCode = rec'.product) →
    (∀ h bd, h ≠ b → (s.bay h).phase.binding? = some bd → bd.serial ≠ rec'.serial) →
    let old := s.table.find? fun e => e.serial = rec'.serial
    let high := (old.map (·.high)).getD c
    let taken := ((old.bind (·.unsure)).map fun u => if u.target ≤ c then u.amount else 0).getD 0
    let pending := min ((old.map (·.owed)).getD 0 - taken) (16777215 - c)
    let evidence : List EvidenceKind :=
      if c < high then [.rollback] else if (old.bind (·.refilled)).isSome then [.knownRefilled] else []
    ∃ t : State,
      exec (.tagReply l (counterReply x.position c (tagResponse master rec'.serial n c))) s =
        .next (t.freeLane l).settleConverter ∧
      (∃ bd, (t.bay b).phase = .active bd ∧ bd.serial = rec'.serial ∧ bd.product = rec'.product ∧
        bd.capacity = rec'.capacity ∧ bd.keyIndex = k ∧ bd.evidence = evidence ∧
        bd.acct =
          { committed := c, pending := pending, inflight := 0, charged := 0, carried := pending, fine := 0
            credited := 0, ceiling := false } ∧
        bd.draw = { remainder := 0, drawn := 0, swath := 0, lastSwath := 0 } ∧ bd.commit.release = none ∧
        bd.ink = inkOf (s.bay b).thresholds bd.capacity bd.remaining ∧
        bd.reinsert = (old.bind (·.lastSensed)).isSome ∧
        (bd.commit.state = .idle ∧ (t.bay b).slot = none ∨
          bd.commit.state = .queued ∧ (t.bay b).slot = some .commit)) ∧
      (t.bay b).wanted = true ∧ (t.bay b).counter = 0 ∧ t.latchOf (baySite b) Kind.bound.code ≠ none ∧
      (evidence ≠ [] → t.latchOf (baySite b) Kind.refill.code ≠ none) ∧ (∀ j, j ≠ b → t.bay j = s.bay j) ∧
      (s.save = .none ∨ (∀ e ∈ s.table, e.bay ≠ some b) →
        ∃ e rest, t.table = e :: rest ∧ e.bay = some b ∧ e.serial = rec'.serial ∧ e.product = rec'.product ∧
          e.capacity = rec'.capacity ∧ e.high = max high c ∧ e.owed = (if s.save = .none then 0 else pending) ∧
          e.unsure = none ∧ e.lastSensed = old.bind (·.lastSensed) ∧ e.cloneSeen = (old.map (·.cloneSeen)).getD false ∧
          e.refilled =
            (if c < high then (old.bind (·.refilled)).or (some .rollback) else old.bind (·.refilled)) ∧
          (old ≠ none → rest = s.table.eraseP fun e => e.serial = rec'.serial) ∧
          (old = none → s.table.length < 32 → rest = s.table) ∧
          (old = none → 32 ≤ s.table.length → ∀ before evicted behind, s.table = before ++ evicted :: behind →
            evicted.bay = none → (∀ e ∈ behind, e.bay ≠ none) → rest = before ++ behind))

/-- A CHALLENGE reply of a bound bay's operation. The wrong response unbinds the bay into REJECTED with BAD_RESPONSE. The
right one sends ADVANCE with the target and the proof over the same nonce in COMMIT and FINAL, raising the entry's high
counter; in RECONCILE a counter at the target or above completes the commit, and one below it frees the flight; with a release
in progress the bay then becomes RELEASED with OK, or FINAL is placed where ink is left to write. That a reply counts while
the timer stands at 25 ms (log 12), and that the commit record keeps the mark of a FINAL (log 27), are the model's readings. -/
def Obligations.CommitChallengeJudged : Prop :=
  ∀ (s : State) (l : Lane) (x : Running) (bd : Binding) (n response : Key) (c : Nat),
    Awaiting s l x → x.step = .challenge → x.op ≠ .identify → x.nonce = some n → c < 2 ^ 24 →
    let b := bayAt l x.position
    let reply := counterReply x.position c response
    (s.bay b).phase = .active bd →
    ((∀ master, s.masterKeys[bd.keyIndex] = some master → response ≠ tagResponse master bd.serial n c) →
      ∃ t : State, exec (.tagReply l reply) s = .next (t.freeLane l).settleConverter ∧
        (t.bay b).phase = .rejected .badResponse DrawFigures.zero ∧ t.table = tableUnbound s.table b bd ∧
        t.latchOf (baySite b) Kind.rejected.code ≠ none ∧ OthersKept s t b) ∧
    ∀ master, s.masterKeys[bd.keyIndex] = some master → response = tagResponse master bd.serial n c →
      (∀ T, x.op = .commit ∨ x.op = .final → bd.commit.state.target? = some T →
        ∃ t : State, exec (.tagReply l reply) s = .next t.settleConverter ∧ OthersKept s t b ∧
          (∀ m, m ≠ l → t.lane m = s.lane m) ∧
          (t.lane l).running = some
            { x with
              step := .advance, attempt := 1, timer := none, nonce := none, opNonce := some n
              command :=
                withCheck (toBytes 1 x.position.val ++ [0x03] ++ toBytes 3 T ++
                  toBytes 16 (Config.digest
                    (Config.digest master (toBytes 8 bd.serial.toNat ++ List.replicate 8 0))
                    (toBytes 16 n.toNat ++ toBytes 3 T)).toNat) } ∧
          ∀ e, s.table.find? (fun e => e.bay = some b) = some e →
            (e.high ≤ c → t.bay b = s.bay b ∧
              t.table = s.table.map fun e => if e.bay = some b then { e with high := max e.high c } else e) ∧
            (c < e.high → ∃ bd', (t.bay b).phase = .active bd' ∧ EvidenceKind.rollback ∈ bd'.evidence ∧
              bd'.acct = bd.acct ∧ bd'.commit = bd.commit)) ∧
      (∀ T fin, x.op = .reconcile → bd.commit.state = .reconciling T fin → bd.commit.release = none →
        ∃ t : State, exec (.tagReply l reply) s = .next (t.freeLane l).settleConverter ∧ OthersKept s t b ∧
          ∃ bd', (t.bay b).phase = .active bd' ∧
            (bd'.commit.state = .idle ∨ bd'.commit.state = .queued ∧ (t.bay b).slot = some .commit) ∧
            (T ≤ c → Completes bd.acct bd'.acct c) ∧ (c < T → bd'.acct = { bd.acct with inflight := 0 })) ∧
      ∀ T fin rel, x.op = .reconcile → bd.commit.state = .reconciling T fin → bd.commit.release = some rel →
        ∃ t : State, exec (.tagReply l reply) s = .next (t.freeLane l).settleConverter ∧ OthersKept s t b ∧
          let left := bd.acct.pending - bd.acct.inflight
          (T ≤ c ∧ (fin = true ∨ left = 0) ∨ c < T ∧ bd.acct.pending = 0 →
            (∃ bd', (t.bay b).phase = .released bd' ∧ bd'.commit.state = .idle ∧ bd'.commit.release = none ∧
              bd'.acct.committed = (if T ≤ c then c else bd.acct.committed) ∧ bd'.acct.inflight = 0) ∧
            (t.bay b).slot = none ∧
            (rel.reserved = true → s.run = none →
              t.replies = s.replies ++ [{ ticket := rel.ticket, kind := 0x41, result := .ok, body := [] }])) ∧
          (T ≤ c ∧ fin = false ∧ 0 < left ∧ c + left ≤ 16777215 ∨ c < T ∧ 0 < bd.acct.pending →
            (t.bay b).slot = some .final ∧ t.replies = s.replies ∧
            ∃ bd', (t.bay b).phase = .active bd' ∧ bd'.commit.state = .queued ∧ bd'.commit.release = some rel ∧
              (T ≤ c → Completes bd.acct bd'.acct c) ∧ (c < T → bd'.acct = { bd.acct with inflight := 0 }))

/-- An ADVANCE reply, judged over the operation nonce. A counter at the target or above completes the commit, and a release in
progress ends in RELEASED with OK, or goes on to a FINAL where ink is still pending. A counter below the target stops commits
with COMMIT_FAULT and evidence, ADVANCE_REFUSED from the committed figure up and ROLLBACK below it. A response that is not
authentic leaves the flight to a RECONCILE. That a reply counts while the timer stands at 25 ms (log 12), and that the commit
record keeps the mark of a FINAL (log 27), are the model's readings. -/
def Obligations.AdvanceReplyJudged : Prop :=
  ∀ (s : State) (l : Lane) (x : Running) (bd : Binding) (n response : Key) (c T : Nat) (fin : Bool),
    Awaiting s l x → x.step = .advance → x.op = .commit ∨ x.op = .final → x.opNonce = some n → c < 2 ^ 24 →
    let b := bayAt l x.position
    let reply := counterReply x.position c response
    (s.bay b).phase = .active bd → bd.commit.state = .inFlight T fin →
    ((∀ master, s.masterKeys[bd.keyIndex] = some master → response ≠ tagResponse master bd.serial n c) →
      ∃ t : State, exec (.tagReply l reply) s = .next (t.freeLane l).settleConverter ∧ OthersKept s t b ∧
        (t.bay b).slot = some .reconcile ∧
        (t.bay b).phase = .active { bd with commit := { bd.commit with state := .reconciling T fin } } ∧
        t.latches = s.latches) ∧
    ∀ master, s.masterKeys[bd.keyIndex] = some master → response = tagResponse master bd.serial n c →
      (T ≤ c →
        ∃ t : State, exec (.tagReply l reply) s = .next (t.freeLane l).settleConverter ∧ OthersKept s t b ∧
          (s.save = .none →
            t.table = s.table.map fun e => if e.bay = some b then { e with high := max e.high c } else e) ∧
          (bd.commit.release = none →
            ∃ bd', (t.bay b).phase = .active bd' ∧ Completes bd.acct bd'.acct c ∧ bd'.draw = bd.draw ∧
              bd'.ink = inkOf (s.bay b).thresholds bd.capacity bd'.remaining ∧
              (bd'.commit.state = .idle ∨ bd'.commit.state = .queued ∧ (t.bay b).slot = some .commit)) ∧
          ∀ rel, bd.commit.release = some rel →
            (fin = true ∨ bd.acct.pending ≤ bd.acct.inflight →
              (∃ bd', (t.bay b).phase = .released bd' ∧ bd'.commit.state = .idle ∧ bd'.acct.committed = c) ∧
              (t.bay b).slot = none ∧
              (rel.reserved = true → s.run = none →
                t.replies = s.replies ++ [{ ticket := rel.ticket, kind := 0x41, result := .ok, body := [] }])) ∧
            (fin = false → bd.acct.inflight < bd.acct.pending →
              c + (bd.acct.pending - bd.acct.inflight) ≤ 16777215 →
                (t.bay b).slot = some .final ∧
                ∃ bd', (t.bay b).phase = .active bd' ∧ bd'.commit.state = .queued ∧
                  bd'.commit.release = some rel)) ∧
      (c < T →
        let kind : EvidenceKind := if bd.acct.committed ≤ c then .advanceRefused else .rollback
        ∃ t : State, exec (.tagReply l reply) s = .next (t.freeLane l).settleConverter ∧ OthersKept s t b ∧
          t.latchOf (baySite b) Kind.commitFault.code ≠ none ∧
          (bd.evidence = [] → t.latchOf (baySite b) Kind.refill.code ≠ none) ∧
          (bd.commit.release = none →
            ∃ bd', (t.bay b).phase = .active bd' ∧ bd'.commit.state = .stopped ∧
              bd'.acct = { bd.acct with inflight := 0 } ∧ kind ∈ bd'.evidence) ∧
          ∀ rel, bd.commit.release = some rel →
            (∃ bd', (t.bay b).phase = .released bd' ∧ bd'.commit.state = .stopped ∧ kind ∈ bd'.evidence) ∧
            (rel.reserved = true → s.run = none →
              t.replies = s.replies ++
                [{ ticket := rel.ticket, kind := 0x41, result := .commitUncertain, body := [] }]))

/-- A lane's arbiter does nothing on a BUSY lane or with no candidate. Otherwise it starts the candidate of the lowest class
number, the first among equals after the last-served position: the request leaves its slot, the lane is BUSY with it, a SEATED
bay becomes IDENTIFYING, and a COMMIT or FINAL takes all pending ink in flight. That draws are numbered (log 11) and that a
timer is absent while its command is sent (log 28) are the model's choices, and the mark of a FINAL is its reading (log 27). -/
def Obligations.LaneArbiterOrder : Prop :=
  ∀ (s : State) (l : Lane),
    ((s.lane l).running ≠ none ∨ (∀ p op, ¬Candidate s l p op) → s.arbitrate l = s) ∧
    ∀ p op, (s.lane l).running = none → Candidate s l p op →
      (∀ p' op', Candidate s l p' op' →
        op.classNumber < op'.classNumber ∨
          op = op' ∧ searchRank (s.lane l).lastServed p ≤ searchRank (s.lane l).lastServed p') →
      let t := s.arbitrate l
      let b := bayAt l p
      (∃ r : Running, (t.lane l).running = some r ∧ r.position = p ∧ r.op = op ∧ r.attempt = 1 ∧ r.abandoned = false ∧
        r.timer = none ∧ r.opNonce = none ∧
        (op = .identify → r.step = .readRecord ∧ r.nonce = none ∧ t.nonceDraws = s.nonceDraws) ∧
        (op ≠ .identify → r.step = .challenge ∧ r.nonce = some (Config.nonce s.nonceDraws) ∧
          t.nonceDraws = s.nonceDraws + 1)) ∧
      (t.lane l).lastServed = p ∧ (t.bay b).slot = none ∧
      (op = .identify →
        (t.bay b).phase = if (s.bay b).phase = .seated then .identifying else (s.bay b).phase) ∧
      (∀ bd, op = .commit ∨ op = .final → (s.bay b).phase = .active bd →
        (t.bay b).phase = .active
          { bd with
            acct := { bd.acct with inflight := bd.acct.pending }
            commit :=
              { bd.commit with state := .inFlight (bd.acct.committed + bd.acct.pending) (op == .final) } }) ∧
      (op = .reconcile → (t.bay b).phase = (s.bay b).phase) ∧
      (∀ c, c ≠ b → t.bay c = s.bay c) ∧ (∀ m, m ≠ l → t.lane m = s.lane m) ∧
      t.replies = s.replies ∧ t.latches = s.latches ∧ (s.save = .none → t.table = s.table ∧ t.writer = s.writer)

/-- The arbiters that run at the end of an event change only bays, lanes, converter, run, random source and, while the save
runs, table and writer; of a bay they change at most a slot, a SEATED state, a flight and its survey schedule. The converter
arbiter alone touches neither table, writer nor random source. That they run at the end of the event is the model's reading
(logs 13, 24). -/
def Obligations.ArbitersKeep : Prop :=
  ∀ s : State, ArbiterFrame s s.runArbiters ∧ ArbiterFrame s s.settleConverter ∧
    (s.save = .none → s.runArbiters.table = s.table ∧ s.runArbiters.writer = s.writer) ∧
    s.settleConverter.table = s.table ∧ s.settleConverter.writer = s.writer ∧
    s.settleConverter.nonceDraws = s.nonceDraws ∧
    ∀ b, BayKeptByArbiters (s.bay b) (s.runArbiters.bay b) ∧ SameButSchedule (s.bay b) (s.settleConverter.bay b)

/-! ### Levels, permits and triggers -/

/-- An evaluation of a line forms the target and acts on the line state by the table; nothing else changes. The target is
INHIBIT outside RUNNING and in every bay state but REJECTED, which takes the reject mode, and ACTIVE, which takes the most
restrictive of the modes that apply. -/
def Obligations.PermitLineEvaluated : Prop :=
  ∀ (s : State) (b : Bay),
    s.evalLine b = s.modBay b (fun x => { x with line := ((s.evalLine b).bay b).line }) ∧
    (s.target b = .inhibit → ((s.evalLine b).bay b).line = .inhibit) ∧
    (s.target b = .allow → ((s.evalLine b).bay b).line = .allow) ∧
    (s.target b = .atSwath →
      ((s.bay b).line = .inhibit → ((s.evalLine b).bay b).line = .inhibit) ∧
      ((s.bay b).line = .allow → ((s.evalLine b).bay b).line = .armed 0) ∧
      ∀ ms, (s.bay b).line = .armed ms → ((s.evalLine b).bay b).line = .armed ms) ∧
    (s.device ≠ .running → s.target b = .inhibit) ∧
    (s.device = .running →
      ((s.bay b).phase.active? = none → (∀ reason d, (s.bay b).phase ≠ .rejected reason d) → s.target b = .inhibit) ∧
      (∀ reason d, (s.bay b).phase = .rejected reason d →
        s.target b = if s.policy.rejectMode = .allow then .allow else .inhibit) ∧
      ∀ bd, (s.bay b).phase = .active bd →
        (bd.evidence = [] → bd.ink ≠ .out → s.target b = .allow) ∧
        (bd.evidence ≠ [] → bd.ink ≠ .out → s.target b = s.policy.refillMode) ∧
        (bd.evidence = [] → bd.ink = .out → s.target b = s.policy.outMode) ∧
        (bd.evidence ≠ [] → bd.ink = .out →
          s.target b =
            if s.policy.refillMode = .inhibit ∨ s.policy.outMode = .inhibit then .inhibit
            else if s.policy.refillMode = .atSwath ∨ s.policy.outMode = .atSwath then .atSwath
            else .allow))

/-- The ink state of remaining against capacity and thresholds; at a computation, the latches of the change, the level seen
lowered by a less severe state, and the line evaluated. Then the triggers: in IDLE with no release, free pending at the
commit step, or a level not yet seen with at least 1 tu free, queues a COMMIT. -/
def Obligations.InkAndTriggersHandedOn : Prop :=
  (∀ (t : Thresholds) (capacity remaining : Nat),
    (remaining * 1000 ≤ t.out * capacity → inkOf t capacity remaining = .out) ∧
    (t.out * capacity < remaining * 1000 → remaining * 1000 ≤ t.low * capacity → inkOf t capacity remaining = .low) ∧
    (t.out * capacity < remaining * 1000 → t.low * capacity < remaining * 1000 →
      inkOf t capacity remaining = .normal)) ∧
  ∀ (s : State) (b : Bay),
    ((s.bay b).phase.active? = none → s.handOn b = s) ∧
    ∀ bd, (s.bay b).phase = .active bd →
      let ink := inkOf (s.bay b).thresholds bd.capacity bd.remaining
      let seen := if ink.code < bd.commit.levelSeen.code then ink else bd.commit.levelSeen
      let computed := s.computeInk b
      computed = { s with bays := computed.bays, latches := computed.latches } ∧
      computed.bay b =
        { s.bay b with
          phase := .active { bd with ink := ink, commit := { bd.commit with levelSeen := seen } }
          line := (computed.bay b).line } ∧
      (computed.bay b).line = (s.bay b).line.evaluate (computed.target b) ∧
      (∀ c, c ≠ b → computed.bay c = s.bay c) ∧
      (bd.ink = .normal → ink = .low → computed.latches = (s.latch (baySite b) .inkLow).latches) ∧
      (bd.ink ≠ .out → ink = .out → computed.latches = (s.latch (baySite b) .inkOut).latches) ∧
      (bd.ink = ink ∨ bd.ink = .out ∨ ink = .normal → computed.latches = s.latches) ∧
      (bd.commit.state = .idle → bd.commit.release = none →
        (s.bayCfg b).commitStep ≤ bd.acct.pending - bd.acct.inflight ∨
            (seen.code < ink.code ∧ 1 ≤ bd.acct.pending - bd.acct.inflight) →
          ((s.handOn b).bay b).slot = some .commit ∧
          ((s.handOn b).bay b).phase = .active
            { bd with ink := ink, commit := { bd.commit with state := .queued, levelSeen := ink } }) ∧
      ((bd.commit.state ≠ .idle ∨ bd.commit.release ≠ none ∨
          bd.acct.pending - bd.acct.inflight < (s.bayCfg b).commitStep ∧
            (ink.code ≤ seen.code ∨ bd.acct.pending = bd.acct.inflight)) →
        s.handOn b = computed)

/-! ### Timers and the converter -/

/-- HOLD_LIMIT_EXPIRY inhibits a line armed for 2000 ms, without a new target, and touches no other line; SURVEY_TIMER_EXPIRY
at the survey period makes the bay wanted; SUPPLY_TIMER_EXPIRY at the interval, 10 ms on a lane watched closely and 1000 ms
otherwise, makes the lane channel due. Then the idle converter takes the first due lane channel, else the due bay channel with
the earliest due time. That the expiry of an absent timer, or one before its time, changes nothing is the model's choice (logs
2, 29). That a lane channel whose interval changes is due at the first event after which its timer has reached the new one is
its reading (log 25). -/
def Obligations.TimerExpiriesAct : Prop :=
  (∀ (s : State) (b : Bay),
    (∀ ms, (s.bay b).line = .armed ms → 2000 ≤ ms →
      exec (.holdLimitExpiry b) s = .next (s.modBay b fun x => { x with line := .inhibit })) ∧
    (∀ ms, (s.bay b).line = .armed ms → ms < 2000 → exec (.holdLimitExpiry b) s = .next s) ∧
    ((s.bay b).line.code ≠ 2 → exec (.holdLimitExpiry b) s = .next s) ∧
    (∀ ms, (s.bay b).surveyTimer = some ms → (s.bayCfg b).calib.period ≤ ms →
      exec (.surveyTimerExpiry b) s = .next (s.modBay b fun x => { x with wanted := true }).settleConverter) ∧
    (∀ ms, (s.bay b).surveyTimer = some ms → ms < (s.bayCfg b).calib.period →
      exec (.surveyTimerExpiry b) s = .next s) ∧
    ((s.bay b).surveyTimer = none → exec (.surveyTimerExpiry b) s = .next s)) ∧
  (∀ (s : State) (l : Lane),
    ((s.lane l).supplyTimer = none → exec (.supplyTimerExpiry l) s = .next s) ∧
    (∀ ms, (s.lane l).supplyTimer = some ms →
      (1000 ≤ ms ∨ 10 ≤ ms ∧ WatchedClosely s l →
        exec (.supplyTimerExpiry l) s = .next s.settleConverter ∧ (s.refreshDue.lane l).supplyDue ≠ none) ∧
      (ms < 10 ∨ ms < 1000 ∧ ¬WatchedClosely s l → exec (.supplyTimerExpiry l) s = .next s))) ∧
  ∀ s : State,
    (s.device ≠ .running ∨ s.converter ≠ none → s.converterArbiter = s) ∧
    (s.device = .running → s.converter = none →
      (∀ l, (s.lane l).supplyDue ≠ none → (∀ m, m < l → (s.lane m).supplyDue = none) →
        s.converterArbiter.converter = some { channel := laneChannel l, discard := false } ∧
        (s.converterArbiter.lane l).supplyTimer = none ∧ (s.converterArbiter.lane l).supplyDue = none) ∧
      ((∀ l, (s.lane l).supplyDue = none) → ∀ b at', (s.bay b).due = some at' →
        (∀ c at'', (s.bay c).due = some at'' → at' < at'' ∨ at' = at'' ∧ b ≤ c) →
          s.converterArbiter.converter = some { channel := bayChannel b, discard := false } ∧
          s.converterArbiter.bay b = { s.bay b with wanted := false, surveyTimer := none, due := none }) ∧
      ((∀ l, (s.lane l).supplyDue = none) → (∀ b, (s.bay b).due = none) → s.converterArbiter = s))

/-- A reading at CONVERSION_COMPLETE. A lane's sets the write hold and LANE_HOLD below hold_raw, clears it from 32 above, and
restarts the supply timer. A bay's, unless discarded, is judged against the expected level: the sensed level is rounded half
up, a rise counts and at its persist gives LEVEL_RISE evidence, and the entry keeps the sensed level. That a completion with
no conversion running changes nothing is the model's choice (log 29). -/
def Obligations.ReadingsJudged : Prop :=
  (∀ (s : State) (raw : BitVec 10), s.converter = none → exec (.conversionComplete raw) s = .next s) ∧
  (∀ (s : State) (raw : BitVec 10) (l : Lane) (discard : Bool),
    s.converter = some { channel := laneChannel l, discard := discard } →
    let hold := s.settings.holdRaw
    let after := if (s.lane l).writeHold then decide (raw.toNat < hold + 32) else decide (raw.toNat < hold)
    ∃ t : State,
      exec (.conversionComplete raw) s =
        .next (if (s.lane l).writeHold ∧ after = false then t.arbitrate l else t).settleConverter ∧
      t.lane l = { s.lane l with writeHold := after, lastSupply := some raw.toNat, supplyTimer := some 0 } ∧
      t = { s with converter := none, lanes := t.lanes, latches := t.latches } ∧
      (∀ m, m ≠ l → t.lane m = s.lane m) ∧
      (after = true → (s.lane l).writeHold = false → t.latchOf (laneSite l) Kind.laneHold.code ≠ none) ∧
      (after = false ∨ (s.lane l).writeHold = true → t.latches = s.latches)) ∧
  (∀ (c : Calib) (raw : Nat), c.empty ≠ c.full →
    let num : Int := if c.empty < c.full then ((raw : Int) - c.empty) * 1000 else ((c.empty : Int) - raw) * 1000
    let den : Int := if c.empty < c.full then (c.full : Int) - c.empty else (c.empty : Int) - c.full
    (num ≤ 0 → sensedLevel c raw = 0) ∧
    (0 < num → (sensedLevel c raw : Int) = min 1000 ((2 * num + den) / (2 * den)))) ∧
  ∀ (s : State) (raw : BitVec 10) (b : Bay) (discard : Bool),
    s.converter = some { channel := bayChannel b, discard := discard } →
    let sensed := sensedLevel (s.bayCfg b).calib raw.toNat
    ∃ t : State, exec (.conversionComplete raw) s = .next t.settleConverter ∧ OthersKept s t b ∧
      (discard = true ∨ (s.bay b).phase.active? = none →
        (∀ c, (t.bay c).phase = (s.bay c).phase ∧ (t.bay c).counter = (s.bay c).counter) ∧ t.table = s.table ∧
        t.latches = s.latches) ∧
      ((s.bay b).phase.active? ≠ none → (t.bay b).surveyTimer = some 0) ∧
      ∀ bd, discard = false → (s.bay b).phase = .active bd →
        let last := (s.table.find? fun e => e.bay = some b).bind (·.lastSensed)
        let margin := (s.bayCfg b).calib.margin
        let rise := decide (bd.remaining * 1000 / bd.capacity + margin ≤ sensed)
        let reinserted := bd.reinsert && (last.map fun x => decide (x + margin ≤ sensed)).getD false
        let persists := rise && (s.bay b).counter + 1 == (s.bayCfg b).calib.persist
        (t.bay b).counter = (if rise && !persists then (s.bay b).counter + 1 else 0) ∧
        (∀ e ∈ t.table, e.bay = some b → e.lastSensed = some sensed) ∧
        ∃ bd', (t.bay b).phase = .active bd' ∧ bd'.reinsert = false ∧ bd'.acct = bd.acct ∧ bd'.ink = bd.ink ∧
          bd'.commit = bd.commit ∧
          (∀ k, k ∈ bd'.evidence ↔
            k ∈ bd.evidence ∨ k = .reinsertRise ∧ reinserted = true ∨ k = .levelRise ∧ persists = true) ∧
          (bd.evidence = [] → bd'.evidence ≠ [] → t.latchOf (baySite b) Kind.refill.code ≠ none)

/-! ### Notices -/

/-- A block's latch takes the level the routing gives its kind, and one already set keeps its level and leaves no trace. A
level's pairs are those latched at it, each once, ascending by site and then by kind; attention and wake follow from
replies, offerable levels and the wake mask. -/
def Obligations.LatchesCoalesce : Prop :=
  (∀ (s : State) (site : Site) (k : Kind),
    (s.latchOf site k.code ≠ none → s.latch site k = s) ∧
    (s.latchOf site k.code = none →
      s.latch site k = { s with latches := (s.latch site k).latches } ∧
      (s.latch site k).latchOf site k.code = some s.settings.routing[k.code] ∧
      ∀ site' k', ¬(site' = site ∧ k' = k.code) → (s.latch site k).latchOf site' k' = s.latchOf site' k')) ∧
  ∀ (s : State) (lv : Level),
    (∀ p, p ∈ s.latchedPairs lv ↔ s.latchOf p.site p.kind = some lv) ∧
    (s.latchedPairs lv).Pairwise (fun p q => p.site < q.site ∨ p.site = q.site ∧ p.kind < q.kind) ∧
    (s.attention = true ↔ s.device ≠ .starting ∧ (s.replies ≠ [] ∨ ∃ m, s.offerable m = true)) ∧
    (s.wake = true ↔ s.dozing = true ∧
      ∃ m : Level, s.settings.wakeMask.getLsbD m.val = true ∧ ∃ site k, s.latchOf site k = some m)

/-! ### The store and the power-fail save -/

/-- STORE_WRITE_COMPLETE. A success replaces the stored section; a failure leaves it, makes the section dirty and failed and
latches STORE_FAULT. Then the walk picks the first dirty section that has not failed, or ends: IDLE, nothing failed, the
waiting requests answered in order, and the save SAVED where TABLE is clean. That nothing changes with the writer IDLE
(log 29), that SAVED is latched for a RESTART whatever the save state (log 17), and that a RESTART whose reservation a link
reset removed begins its cold start at the end of the walk (log 16), are the model's choices. -/
def Obligations.StoreWriteEnds : Prop :=
  ∀ (s : State) (ok : Bool),
    (s.writer.writing = none → exec (.storeWriteComplete ok) s = .next s) ∧
    ∀ c, s.writer.writing = some c →
      let bad := fun sec : StoreSection => !ok && decide (sec = c.whose)
      let dirty : Sections :=
        { table := s.writer.dirty.table || bad .table, policy := s.writer.dirty.policy || bad .policy
          settings := s.writer.dirty.settings || bad .settings }
      let failed : Sections :=
        { table := s.writer.failed.table || bad .table, policy := s.writer.failed.policy || bad .policy
          settings := s.writer.failed.settings || bad .settings }
      ∃ t : State, exec (.storeWriteComplete ok) s = .next t ∧
        (ok = false → t.store = s.store) ∧
        (∀ e, ok = true → c = .table e → t.store = { s.store with table := some e }) ∧
        (∀ p, ok = true → c = .policy p → t.store = { s.store with policy := some p }) ∧
        (∀ x, ok = true → c = .settings x → t.store = { s.store with settings := some x }) ∧
        (dirty.table = true → failed.table = false →
          t.writer = { writing := some (.table s.table), dirty := { dirty with table := false }, failed := failed }) ∧
        ((dirty.table = true → failed.table = true) → dirty.policy = true → failed.policy = false →
          t.writer =
            { writing := some (.policy s.policy), dirty := { dirty with policy := false }, failed := failed }) ∧
        ((dirty.table = true → failed.table = true) → (dirty.policy = true → failed.policy = true) →
          dirty.settings = true → failed.settings = false →
            t.writer =
              { writing := some (.settings s.settings), dirty := { dirty with settings := false }, failed := failed }) ∧
        (t.writer.writing ≠ none →
          t = { s with store := t.store, writer := t.writer, latches := t.latches } ∧
            (ok = true → t.latches = s.latches) ∧
            (ok = false → t.latchOf deviceSite Kind.storeFault.code ≠ none)) ∧
        ((dirty.table = true → failed.table = true) → (dirty.policy = true → failed.policy = true) →
          (dirty.settings = true → failed.settings = true) →
          (∀ w ∈ s.waiters, w.isRestart = true → w.reserved = true) →
            t.writer = { writing := none, dirty := dirty, failed := Sections.empty } ∧ t.waiters = [] ∧
            (dirty.table = false → s.save = .saving ∨ (∃ w ∈ s.waiters, w.isRestart = true) →
              t.save = .saved ∧ t.latchOf deviceSite Kind.saved.code ≠ none) ∧
            (dirty.table = true ∨ s.save ≠ .saving ∧ (∀ w ∈ s.waiters, w.isRestart = false) → t.save = s.save) ∧
            t.replies = s.replies ++ (s.waiters.filter (·.reserved)).map fun w =>
              if w.isRestart then
                { ticket := w.ticket, kind := 0x52, result := if dirty.table then .partially else .ok, body := [] }
              else
                { ticket := w.ticket, kind := 0x51
                  result := if dirty.table || dirty.policy || dirty.settings then .partially else .ok, body := [] }) ∧
        ((dirty.table = true → failed.table = true) → (dirty.policy = true → failed.policy = true) →
          (dirty.settings = true → failed.settings = true) →
          (∃ w ∈ s.waiters, w.isRestart = true ∧ w.reserved = false) →
            t.device = .starting ∧ exec (.storeWriteComplete ok) s = exec .powerOn { s with store := t.store })

/-- PFAIL_ASSERT in RUNNING with save state NONE and no RESTART in progress writes every bound bay's owed ink and unsure flight
into its entry, makes TABLE dirty, triggers the writer and sets SAVING; PFAIL_DEASSERT in SAVING or SAVED clears those
values of the entries that name bays, writes TABLE again and sets NONE. That otherwise, in STARTING and FAULTED as well, the
input alone changes is the model's reading (logs 29, 35). -/
def Obligations.PfailSavesAndClears : Prop :=
  ∀ s : State,
    (s.device = .running → s.save = .none → s.restarting = false →
      ∃ t : State, exec .pfailAssert s = .next t ∧
        t = { s with pfail := true, save := .saving, table := t.table, writer := t.writer } ∧
        t.table.length = s.table.length ∧ t.writer.failed = Sections.empty ∧
        (s.writer.writing = none → t.writer.writing = some (.table t.table)) ∧
        (∀ c, s.writer.writing = some c → t.writer.writing = some c ∧ t.writer.dirty.table = true) ∧
        (∀ e ∈ t.table, ∀ b bd, e.bay = some b → (s.bay b).phase.binding? = some bd →
          e.owed = bd.acct.pending ∧
          e.unsure = bd.commit.state.target?.map fun T => { target := T, amount := bd.acct.inflight })) ∧
    (s.device ≠ .running ∨ s.save ≠ .none ∨ s.restarting = true →
      exec .pfailAssert s = .next { s with pfail := true }) ∧
    (s.save ≠ .none → s.restarting = false →
      ∃ t : State, exec .pfailDeassert s = .next t ∧
        t = { s with pfail := false, save := .none, table := t.table, writer := t.writer } ∧
        (t.table = s.table.map fun e => if e.bay = none then e else { e with owed := 0, unsure := none }) ∧
        (s.device = .running → s.writer.writing = none → t.writer.writing = some (.table t.table)) ∧
        (∀ c, s.writer.writing = some c → t.writer.writing = some c ∧ t.writer.dirty.table = true)) ∧
    (s.save = .none ∨ s.restarting = true → exec .pfailDeassert s = .next { s with pfail := false })

/-! ### Invariants that every step keeps -/

/-- Every step keeps it: a permit line allows only while the device is RUNNING and its bay is ACTIVE, or REJECTED under reject
mode ALLOW. -/
def Obligations.PermitSafeKept : Prop := ∀ s s' : State, PermitSafe s → step s = .next s' → PermitSafe s'

/-- Every step keeps it: each bound bay's figures are in range and, while the ceiling flag is clear, no femtolitre goes
astray; and ink is in flight only while a target is. -/
def Obligations.AccountsBalancedKept : Prop :=
  ∀ s s' : State, AccountsBalanced s → step s = .next s' → AccountsBalanced s'

/-- Every step keeps it: the request queue holds at most 4 requests, and placed replies and reservations number at most 8. -/
def Obligations.QueuesBoundedKept : Prop := ∀ s s' : State, QueuesBounded s → step s = .next s' → QueuesBounded s'

/-- Every step keeps it: the table holds at most 32 entries, no serial twice, and its entries and the bound bays name each
other; with it, that a bay waiting for an IDENTIFY or running one is not bound, that READ_RECORD is sent for an IDENTIFY
alone, and that bays and lanes are idle outside RUNNING. -/
def Obligations.TableConsistentKept : Prop :=
  ∀ s s' : State, TableConsistent s → step s = .next s' → TableConsistent s'

end
end

