-- ==== Sys2Proof/Laws/State.lean ====
section
/-! SUPPORT. The plain updates of the state: which field each changes, and what reading gives after it. -/

namespace Sys2Proof.Machine

variable (s : State)

/-! ### Places of a fixed list -/

/-- Reading a place gives what was written there, and every other place as it was. -/
theorem get_put_val {α : Type} {n : Nat} (v : Vector α n) (i j : Fin n) (x : α) :
    (put v i x)[j.val] = if i = j then x else v[j.val] := by
  by_cases h : i = j
  · subst h; simp [put]
  · have h' : i.val ≠ j.val := fun e => h (Fin.ext e)
    simp [put, h, h']

theorem get_put {α : Type} {n : Nat} (v : Vector α n) (i j : Fin n) (x : α) :
    (put v i x)[j] = if i = j then x else v[j] := get_put_val v i j x

@[simp] theorem get_put_same {α : Type} {n : Nat} (v : Vector α n) (i : Fin n) (x : α) : (put v i x)[i.val] = x := by
  rw [get_put_val, if_pos rfl]

theorem get_put_other {α : Type} {n : Nat} (v : Vector α n) {i j : Fin n} (h : j ≠ i) (x : α) :
    (put v i x)[j.val] = v[j.val] := by
  rw [get_put_val, if_neg h.symm]

/-- Writing what a place holds changes nothing. -/
theorem put_get {α : Type} {n : Nat} (v : Vector α n) (i : Fin n) : put v i v[i] = v := by
  apply Vector.ext
  intro j hj
  have := get_put v i ⟨j, hj⟩ v[i]
  by_cases h : i = ⟨j, hj⟩
  · subst h; simp [put]
  · simpa [h] using this

/-! ### One field each -/

@[simp] theorem modBay_pending (b : Bay) (f : BayRec → BayRec) : (s.modBay b f).pending = s.pending := rfl
@[simp] theorem modBay_now (b : Bay) (f : BayRec → BayRec) : (s.modBay b f).now = s.now := rfl
@[simp] theorem modBay_nonceDraws (b : Bay) (f : BayRec → BayRec) : (s.modBay b f).nonceDraws = s.nonceDraws := rfl
@[simp] theorem modBay_device (b : Bay) (f : BayRec → BayRec) : (s.modBay b f).device = s.device := rfl
@[simp] theorem modBay_save (b : Bay) (f : BayRec → BayRec) : (s.modBay b f).save = s.save := rfl
@[simp] theorem modBay_restarting (b : Bay) (f : BayRec → BayRec) : (s.modBay b f).restarting = s.restarting := rfl
@[simp] theorem modBay_waiters (b : Bay) (f : BayRec → BayRec) : (s.modBay b f).waiters = s.waiters := rfl
@[simp] theorem modBay_writer (b : Bay) (f : BayRec → BayRec) : (s.modBay b f).writer = s.writer := rfl
@[simp] theorem modBay_store (b : Bay) (f : BayRec → BayRec) : (s.modBay b f).store = s.store := rfl
@[simp] theorem modBay_oneWay (b : Bay) (f : BayRec → BayRec) : (s.modBay b f).oneWay = s.oneWay := rfl
@[simp] theorem modBay_policy (b : Bay) (f : BayRec → BayRec) : (s.modBay b f).policy = s.policy := rfl
@[simp] theorem modBay_settings (b : Bay) (f : BayRec → BayRec) : (s.modBay b f).settings = s.settings := rfl
@[simp] theorem modBay_pfail (b : Bay) (f : BayRec → BayRec) : (s.modBay b f).pfail = s.pfail := rfl
@[simp] theorem modBay_masterKeys (b : Bay) (f : BayRec → BayRec) : (s.modBay b f).masterKeys = s.masterKeys := rfl
@[simp] theorem modBay_raw (b : Bay) (f : BayRec → BayRec) : (s.modBay b f).raw = s.raw := rfl
@[simp] theorem modBay_lanes (b : Bay) (f : BayRec → BayRec) : (s.modBay b f).lanes = s.lanes := rfl
@[simp] theorem modBay_converter (b : Bay) (f : BayRec → BayRec) : (s.modBay b f).converter = s.converter := rfl
@[simp] theorem modBay_run (b : Bay) (f : BayRec → BayRec) : (s.modBay b f).run = s.run := rfl
@[simp] theorem modBay_table (b : Bay) (f : BayRec → BayRec) : (s.modBay b f).table = s.table := rfl
@[simp] theorem modBay_latches (b : Bay) (f : BayRec → BayRec) : (s.modBay b f).latches = s.latches := rfl
@[simp] theorem modBay_service (b : Bay) (f : BayRec → BayRec) : (s.modBay b f).service = s.service := rfl
@[simp] theorem modBay_dozing (b : Bay) (f : BayRec → BayRec) : (s.modBay b f).dozing = s.dozing := rfl
@[simp] theorem modBay_status (b : Bay) (f : BayRec → BayRec) : (s.modBay b f).status = s.status := rfl
@[simp] theorem modBay_requests (b : Bay) (f : BayRec → BayRec) : (s.modBay b f).requests = s.requests := rfl
@[simp] theorem modBay_replies (b : Bay) (f : BayRec → BayRec) : (s.modBay b f).replies = s.replies := rfl
@[simp] theorem modBay_frame (b : Bay) (f : BayRec → BayRec) : (s.modBay b f).frame = s.frame := rfl

@[simp] theorem mapBays_pending (f : Bay → BayRec → BayRec) : (s.mapBays f).pending = s.pending := rfl
@[simp] theorem mapBays_now (f : Bay → BayRec → BayRec) : (s.mapBays f).now = s.now := rfl
@[simp] theorem mapBays_nonceDraws (f : Bay → BayRec → BayRec) : (s.mapBays f).nonceDraws = s.nonceDraws := rfl
@[simp] theorem mapBays_device (f : Bay → BayRec → BayRec) : (s.mapBays f).device = s.device := rfl
@[simp] theorem mapBays_save (f : Bay → BayRec → BayRec) : (s.mapBays f).save = s.save := rfl
@[simp] theorem mapBays_restarting (f : Bay → BayRec → BayRec) : (s.mapBays f).restarting = s.restarting := rfl
@[simp] theorem mapBays_waiters (f : Bay → BayRec → BayRec) : (s.mapBays f).waiters = s.waiters := rfl
@[simp] theorem mapBays_writer (f : Bay → BayRec → BayRec) : (s.mapBays f).writer = s.writer := rfl
@[simp] theorem mapBays_store (f : Bay → BayRec → BayRec) : (s.mapBays f).store = s.store := rfl
@[simp] theorem mapBays_oneWay (f : Bay → BayRec → BayRec) : (s.mapBays f).oneWay = s.oneWay := rfl
@[simp] theorem mapBays_policy (f : Bay → BayRec → BayRec) : (s.mapBays f).policy = s.policy := rfl
@[simp] theorem mapBays_settings (f : Bay → BayRec → BayRec) : (s.mapBays f).settings = s.settings := rfl
@[simp] theorem mapBays_pfail (f : Bay → BayRec → BayRec) : (s.mapBays f).pfail = s.pfail := rfl
@[simp] theorem mapBays_masterKeys (f : Bay → BayRec → BayRec) : (s.mapBays f).masterKeys = s.masterKeys := rfl
@[simp] theorem mapBays_raw (f : Bay → BayRec → BayRec) : (s.mapBays f).raw = s.raw := rfl
@[simp] theorem mapBays_lanes (f : Bay → BayRec → BayRec) : (s.mapBays f).lanes = s.lanes := rfl
@[simp] theorem mapBays_converter (f : Bay → BayRec → BayRec) : (s.mapBays f).converter = s.converter := rfl
@[simp] theorem mapBays_run (f : Bay → BayRec → BayRec) : (s.mapBays f).run = s.run := rfl
@[simp] theorem mapBays_table (f : Bay → BayRec → BayRec) : (s.mapBays f).table = s.table := rfl
@[simp] theorem mapBays_latches (f : Bay → BayRec → BayRec) : (s.mapBays f).latches = s.latches := rfl
@[simp] theorem mapBays_service (f : Bay → BayRec → BayRec) : (s.mapBays f).service = s.service := rfl
@[simp] theorem mapBays_dozing (f : Bay → BayRec → BayRec) : (s.mapBays f).dozing = s.dozing := rfl
@[simp] theorem mapBays_status (f : Bay → BayRec → BayRec) : (s.mapBays f).status = s.status := rfl
@[simp] theorem mapBays_requests (f : Bay → BayRec → BayRec) : (s.mapBays f).requests = s.requests := rfl
@[simp] theorem mapBays_replies (f : Bay → BayRec → BayRec) : (s.mapBays f).replies = s.replies := rfl
@[simp] theorem mapBays_frame (f : Bay → BayRec → BayRec) : (s.mapBays f).frame = s.frame := rfl

@[simp] theorem modLane_pending (l : Lane) (f : LaneRec → LaneRec) : (s.modLane l f).pending = s.pending := rfl
@[simp] theorem modLane_now (l : Lane) (f : LaneRec → LaneRec) : (s.modLane l f).now = s.now := rfl
@[simp] theorem modLane_nonceDraws (l : Lane) (f : LaneRec → LaneRec) :
    (s.modLane l f).nonceDraws = s.nonceDraws := rfl
@[simp] theorem modLane_device (l : Lane) (f : LaneRec → LaneRec) : (s.modLane l f).device = s.device := rfl
@[simp] theorem modLane_save (l : Lane) (f : LaneRec → LaneRec) : (s.modLane l f).save = s.save := rfl
@[simp] theorem modLane_restarting (l : Lane) (f : LaneRec → LaneRec) :
    (s.modLane l f).restarting = s.restarting := rfl
@[simp] theorem modLane_waiters (l : Lane) (f : LaneRec → LaneRec) : (s.modLane l f).waiters = s.waiters := rfl
@[simp] theorem modLane_writer (l : Lane) (f : LaneRec → LaneRec) : (s.modLane l f).writer = s.writer := rfl
@[simp] theorem modLane_store (l : Lane) (f : LaneRec → LaneRec) : (s.modLane l f).store = s.store := rfl
@[simp] theorem modLane_oneWay (l : Lane) (f : LaneRec → LaneRec) : (s.modLane l f).oneWay = s.oneWay := rfl
@[simp] theorem modLane_policy (l : Lane) (f : LaneRec → LaneRec) : (s.modLane l f).policy = s.policy := rfl
@[simp] theorem modLane_settings (l : Lane) (f : LaneRec → LaneRec) : (s.modLane l f).settings = s.settings := rfl
@[simp] theorem modLane_pfail (l : Lane) (f : LaneRec → LaneRec) : (s.modLane l f).pfail = s.pfail := rfl
@[simp] theorem modLane_masterKeys (l : Lane) (f : LaneRec → LaneRec) :
    (s.modLane l f).masterKeys = s.masterKeys := rfl
@[simp] theorem modLane_raw (l : Lane) (f : LaneRec → LaneRec) : (s.modLane l f).raw = s.raw := rfl
@[simp] theorem modLane_bays (l : Lane) (f : LaneRec → LaneRec) : (s.modLane l f).bays = s.bays := rfl
@[simp] theorem modLane_converter (l : Lane) (f : LaneRec → LaneRec) : (s.modLane l f).converter = s.converter := rfl
@[simp] theorem modLane_run (l : Lane) (f : LaneRec → LaneRec) : (s.modLane l f).run = s.run := rfl
@[simp] theorem modLane_table (l : Lane) (f : LaneRec → LaneRec) : (s.modLane l f).table = s.table := rfl
@[simp] theorem modLane_latches (l : Lane) (f : LaneRec → LaneRec) : (s.modLane l f).latches = s.latches := rfl
@[simp] theorem modLane_service (l : Lane) (f : LaneRec → LaneRec) : (s.modLane l f).service = s.service := rfl
@[simp] theorem modLane_dozing (l : Lane) (f : LaneRec → LaneRec) : (s.modLane l f).dozing = s.dozing := rfl
@[simp] theorem modLane_status (l : Lane) (f : LaneRec → LaneRec) : (s.modLane l f).status = s.status := rfl
@[simp] theorem modLane_requests (l : Lane) (f : LaneRec → LaneRec) : (s.modLane l f).requests = s.requests := rfl
@[simp] theorem modLane_replies (l : Lane) (f : LaneRec → LaneRec) : (s.modLane l f).replies = s.replies := rfl
@[simp] theorem modLane_frame (l : Lane) (f : LaneRec → LaneRec) : (s.modLane l f).frame = s.frame := rfl

@[simp] theorem mapLanes_pending (f : Lane → LaneRec → LaneRec) : (s.mapLanes f).pending = s.pending := rfl
@[simp] theorem mapLanes_now (f : Lane → LaneRec → LaneRec) : (s.mapLanes f).now = s.now := rfl
@[simp] theorem mapLanes_nonceDraws (f : Lane → LaneRec → LaneRec) : (s.mapLanes f).nonceDraws = s.nonceDraws := rfl
@[simp] theorem mapLanes_device (f : Lane → LaneRec → LaneRec) : (s.mapLanes f).device = s.device := rfl
@[simp] theorem mapLanes_save (f : Lane → LaneRec → LaneRec) : (s.mapLanes f).save = s.save := rfl
@[simp] theorem mapLanes_restarting (f : Lane → LaneRec → LaneRec) : (s.mapLanes f).restarting = s.restarting := rfl
@[simp] theorem mapLanes_waiters (f : Lane → LaneRec → LaneRec) : (s.mapLanes f).waiters = s.waiters := rfl
@[simp] theorem mapLanes_writer (f : Lane → LaneRec → LaneRec) : (s.mapLanes f).writer = s.writer := rfl
@[simp] theorem mapLanes_store (f : Lane → LaneRec → LaneRec) : (s.mapLanes f).store = s.store := rfl
@[simp] theorem mapLanes_oneWay (f : Lane → LaneRec → LaneRec) : (s.mapLanes f).oneWay = s.oneWay := rfl
@[simp] theorem mapLanes_policy (f : Lane → LaneRec → LaneRec) : (s.mapLanes f).policy = s.policy := rfl
@[simp] theorem mapLanes_settings (f : Lane → LaneRec → LaneRec) : (s.mapLanes f).settings = s.settings := rfl
@[simp] theorem mapLanes_pfail (f : Lane → LaneRec → LaneRec) : (s.mapLanes f).pfail = s.pfail := rfl
@[simp] theorem mapLanes_masterKeys (f : Lane → LaneRec → LaneRec) : (s.mapLanes f).masterKeys = s.masterKeys := rfl
@[simp] theorem mapLanes_raw (f : Lane → LaneRec → LaneRec) : (s.mapLanes f).raw = s.raw := rfl
@[simp] theorem mapLanes_bays (f : Lane → LaneRec → LaneRec) : (s.mapLanes f).bays = s.bays := rfl
@[simp] theorem mapLanes_converter (f : Lane → LaneRec → LaneRec) : (s.mapLanes f).converter = s.converter := rfl
@[simp] theorem mapLanes_run (f : Lane → LaneRec → LaneRec) : (s.mapLanes f).run = s.run := rfl
@[simp] theorem mapLanes_table (f : Lane → LaneRec → LaneRec) : (s.mapLanes f).table = s.table := rfl
@[simp] theorem mapLanes_latches (f : Lane → LaneRec → LaneRec) : (s.mapLanes f).latches = s.latches := rfl
@[simp] theorem mapLanes_service (f : Lane → LaneRec → LaneRec) : (s.mapLanes f).service = s.service := rfl
@[simp] theorem mapLanes_dozing (f : Lane → LaneRec → LaneRec) : (s.mapLanes f).dozing = s.dozing := rfl
@[simp] theorem mapLanes_status (f : Lane → LaneRec → LaneRec) : (s.mapLanes f).status = s.status := rfl
@[simp] theorem mapLanes_requests (f : Lane → LaneRec → LaneRec) : (s.mapLanes f).requests = s.requests := rfl
@[simp] theorem mapLanes_replies (f : Lane → LaneRec → LaneRec) : (s.mapLanes f).replies = s.replies := rfl
@[simp] theorem mapLanes_frame (f : Lane → LaneRec → LaneRec) : (s.mapLanes f).frame = s.frame := rfl

@[simp] theorem modBayCfg_pending (b : Bay) (f : BaySettings → BaySettings) :
    (s.modBayCfg b f).pending = s.pending := rfl
@[simp] theorem modBayCfg_now (b : Bay) (f : BaySettings → BaySettings) : (s.modBayCfg b f).now = s.now := rfl
@[simp] theorem modBayCfg_nonceDraws (b : Bay) (f : BaySettings → BaySettings) :
    (s.modBayCfg b f).nonceDraws = s.nonceDraws := rfl
@[simp] theorem modBayCfg_device (b : Bay) (f : BaySettings → BaySettings) :
    (s.modBayCfg b f).device = s.device := rfl
@[simp] theorem modBayCfg_save (b : Bay) (f : BaySettings → BaySettings) : (s.modBayCfg b f).save = s.save := rfl
@[simp] theorem modBayCfg_restarting (b : Bay) (f : BaySettings → BaySettings) :
    (s.modBayCfg b f).restarting = s.restarting := rfl
@[simp] theorem modBayCfg_waiters (b : Bay) (f : BaySettings → BaySettings) :
    (s.modBayCfg b f).waiters = s.waiters := rfl
@[simp] theorem modBayCfg_writer (b : Bay) (f : BaySettings → BaySettings) :
    (s.modBayCfg b f).writer = s.writer := rfl
@[simp] theorem modBayCfg_store (b : Bay) (f : BaySettings → BaySettings) : (s.modBayCfg b f).store = s.store := rfl
@[simp] theorem modBayCfg_oneWay (b : Bay) (f : BaySettings → BaySettings) :
    (s.modBayCfg b f).oneWay = s.oneWay := rfl
@[simp] theorem modBayCfg_policy (b : Bay) (f : BaySettings → BaySettings) :
    (s.modBayCfg b f).policy = s.policy := rfl
@[simp] theorem modBayCfg_pfail (b : Bay) (f : BaySettings → BaySettings) : (s.modBayCfg b f).pfail = s.pfail := rfl
@[simp] theorem modBayCfg_masterKeys (b : Bay) (f : BaySettings → BaySettings) :
    (s.modBayCfg b f).masterKeys = s.masterKeys := rfl
@[simp] theorem modBayCfg_raw (b : Bay) (f : BaySettings → BaySettings) : (s.modBayCfg b f).raw = s.raw := rfl
@[simp] theorem modBayCfg_bays (b : Bay) (f : BaySettings → BaySettings) : (s.modBayCfg b f).bays = s.bays := rfl
@[simp] theorem modBayCfg_lanes (b : Bay) (f : BaySettings → BaySettings) : (s.modBayCfg b f).lanes = s.lanes := rfl
@[simp] theorem modBayCfg_converter (b : Bay) (f : BaySettings → BaySettings) :
    (s.modBayCfg b f).converter = s.converter := rfl
@[simp] theorem modBayCfg_run (b : Bay) (f : BaySettings → BaySettings) : (s.modBayCfg b f).run = s.run := rfl
@[simp] theorem modBayCfg_table (b : Bay) (f : BaySettings → BaySettings) : (s.modBayCfg b f).table = s.table := rfl
@[simp] theorem modBayCfg_latches (b : Bay) (f : BaySettings → BaySettings) :
    (s.modBayCfg b f).latches = s.latches := rfl
@[simp] theorem modBayCfg_service (b : Bay) (f : BaySettings → BaySettings) :
    (s.modBayCfg b f).service = s.service := rfl
@[simp] theorem modBayCfg_dozing (b : Bay) (f : BaySettings → BaySettings) :
    (s.modBayCfg b f).dozing = s.dozing := rfl
@[simp] theorem modBayCfg_status (b : Bay) (f : BaySettings → BaySettings) :
    (s.modBayCfg b f).status = s.status := rfl
@[simp] theorem modBayCfg_requests (b : Bay) (f : BaySettings → BaySettings) :
    (s.modBayCfg b f).requests = s.requests := rfl
@[simp] theorem modBayCfg_replies (b : Bay) (f : BaySettings → BaySettings) :
    (s.modBayCfg b f).replies = s.replies := rfl
@[simp] theorem modBayCfg_frame (b : Bay) (f : BaySettings → BaySettings) : (s.modBayCfg b f).frame = s.frame := rfl

@[simp] theorem modBinding_pending (b : Bay) (f : Binding → Binding) : (s.modBinding b f).pending = s.pending := rfl
@[simp] theorem modBinding_now (b : Bay) (f : Binding → Binding) : (s.modBinding b f).now = s.now := rfl
@[simp] theorem modBinding_nonceDraws (b : Bay) (f : Binding → Binding) :
    (s.modBinding b f).nonceDraws = s.nonceDraws := rfl
@[simp] theorem modBinding_device (b : Bay) (f : Binding → Binding) : (s.modBinding b f).device = s.device := rfl
@[simp] theorem modBinding_save (b : Bay) (f : Binding → Binding) : (s.modBinding b f).save = s.save := rfl
@[simp] theorem modBinding_restarting (b : Bay) (f : Binding → Binding) :
    (s.modBinding b f).restarting = s.restarting := rfl
@[simp] theorem modBinding_waiters (b : Bay) (f : Binding → Binding) : (s.modBinding b f).waiters = s.waiters := rfl
@[simp] theorem modBinding_writer (b : Bay) (f : Binding → Binding) : (s.modBinding b f).writer = s.writer := rfl
@[simp] theorem modBinding_store (b : Bay) (f : Binding → Binding) : (s.modBinding b f).store = s.store := rfl
@[simp] theorem modBinding_oneWay (b : Bay) (f : Binding → Binding) : (s.modBinding b f).oneWay = s.oneWay := rfl
@[simp] theorem modBinding_policy (b : Bay) (f : Binding → Binding) : (s.modBinding b f).policy = s.policy := rfl
@[simp] theorem modBinding_settings (b : Bay) (f : Binding → Binding) :
    (s.modBinding b f).settings = s.settings := rfl
@[simp] theorem modBinding_pfail (b : Bay) (f : Binding → Binding) : (s.modBinding b f).pfail = s.pfail := rfl
@[simp] theorem modBinding_masterKeys (b : Bay) (f : Binding → Binding) :
    (s.modBinding b f).masterKeys = s.masterKeys := rfl
@[simp] theorem modBinding_raw (b : Bay) (f : Binding → Binding) : (s.modBinding b f).raw = s.raw := rfl
@[simp] theorem modBinding_lanes (b : Bay) (f : Binding → Binding) : (s.modBinding b f).lanes = s.lanes := rfl
@[simp] theorem modBinding_converter (b : Bay) (f : Binding → Binding) :
    (s.modBinding b f).converter = s.converter := rfl
@[simp] theorem modBinding_run (b : Bay) (f : Binding → Binding) : (s.modBinding b f).run = s.run := rfl
@[simp] theorem modBinding_table (b : Bay) (f : Binding → Binding) : (s.modBinding b f).table = s.table := rfl
@[simp] theorem modBinding_latches (b : Bay) (f : Binding → Binding) : (s.modBinding b f).latches = s.latches := rfl
@[simp] theorem modBinding_service (b : Bay) (f : Binding → Binding) : (s.modBinding b f).service = s.service := rfl
@[simp] theorem modBinding_dozing (b : Bay) (f : Binding → Binding) : (s.modBinding b f).dozing = s.dozing := rfl
@[simp] theorem modBinding_status (b : Bay) (f : Binding → Binding) : (s.modBinding b f).status = s.status := rfl
@[simp] theorem modBinding_requests (b : Bay) (f : Binding → Binding) :
    (s.modBinding b f).requests = s.requests := rfl
@[simp] theorem modBinding_replies (b : Bay) (f : Binding → Binding) : (s.modBinding b f).replies = s.replies := rfl
@[simp] theorem modBinding_frame (b : Bay) (f : Binding → Binding) : (s.modBinding b f).frame = s.frame := rfl

@[simp] theorem place_pending (r : Reply) : (s.place r).pending = s.pending := rfl
@[simp] theorem place_now (r : Reply) : (s.place r).now = s.now := rfl
@[simp] theorem place_nonceDraws (r : Reply) : (s.place r).nonceDraws = s.nonceDraws := rfl
@[simp] theorem place_device (r : Reply) : (s.place r).device = s.device := rfl
@[simp] theorem place_save (r : Reply) : (s.place r).save = s.save := rfl
@[simp] theorem place_restarting (r : Reply) : (s.place r).restarting = s.restarting := rfl
@[simp] theorem place_waiters (r : Reply) : (s.place r).waiters = s.waiters := rfl
@[simp] theorem place_writer (r : Reply) : (s.place r).writer = s.writer := rfl
@[simp] theorem place_store (r : Reply) : (s.place r).store = s.store := rfl
@[simp] theorem place_oneWay (r : Reply) : (s.place r).oneWay = s.oneWay := rfl
@[simp] theorem place_policy (r : Reply) : (s.place r).policy = s.policy := rfl
@[simp] theorem place_settings (r : Reply) : (s.place r).settings = s.settings := rfl
@[simp] theorem place_pfail (r : Reply) : (s.place r).pfail = s.pfail := rfl
@[simp] theorem place_masterKeys (r : Reply) : (s.place r).masterKeys = s.masterKeys := rfl
@[simp] theorem place_raw (r : Reply) : (s.place r).raw = s.raw := rfl
@[simp] theorem place_bays (r : Reply) : (s.place r).bays = s.bays := rfl
@[simp] theorem place_lanes (r : Reply) : (s.place r).lanes = s.lanes := rfl
@[simp] theorem place_converter (r : Reply) : (s.place r).converter = s.converter := rfl
@[simp] theorem place_run (r : Reply) : (s.place r).run = s.run := rfl
@[simp] theorem place_table (r : Reply) : (s.place r).table = s.table := rfl
@[simp] theorem place_latches (r : Reply) : (s.place r).latches = s.latches := rfl
@[simp] theorem place_service (r : Reply) : (s.place r).service = s.service := rfl
@[simp] theorem place_dozing (r : Reply) : (s.place r).dozing = s.dozing := rfl
@[simp] theorem place_status (r : Reply) : (s.place r).status = s.status := rfl
@[simp] theorem place_requests (r : Reply) : (s.place r).requests = s.requests := rfl
@[simp] theorem place_frame (r : Reply) : (s.place r).frame = s.frame := rfl

@[simp] theorem setLatch_pending (site : Site) (k : Fin 13) (v : Option Level) :
    (s.setLatch site k v).pending = s.pending := rfl
@[simp] theorem setLatch_now (site : Site) (k : Fin 13) (v : Option Level) : (s.setLatch site k v).now = s.now := rfl
@[simp] theorem setLatch_nonceDraws (site : Site) (k : Fin 13) (v : Option Level) :
    (s.setLatch site k v).nonceDraws = s.nonceDraws := rfl
@[simp] theorem setLatch_device (site : Site) (k : Fin 13) (v : Option Level) :
    (s.setLatch site k v).device = s.device := rfl
@[simp] theorem setLatch_save (site : Site) (k : Fin 13) (v : Option Level) :
    (s.setLatch site k v).save = s.save := rfl
@[simp] theorem setLatch_restarting (site : Site) (k : Fin 13) (v : Option Level) :
    (s.setLatch site k v).restarting = s.restarting := rfl
@[simp] theorem setLatch_waiters (site : Site) (k : Fin 13) (v : Option Level) :
    (s.setLatch site k v).waiters = s.waiters := rfl
@[simp] theorem setLatch_writer (site : Site) (k : Fin 13) (v : Option Level) :
    (s.setLatch site k v).writer = s.writer := rfl
@[simp] theorem setLatch_store (site : Site) (k : Fin 13) (v : Option Level) :
    (s.setLatch site k v).store = s.store := rfl
@[simp] theorem setLatch_oneWay (site : Site) (k : Fin 13) (v : Option Level) :
    (s.setLatch site k v).oneWay = s.oneWay := rfl
@[simp] theorem setLatch_policy (site : Site) (k : Fin 13) (v : Option Level) :
    (s.setLatch site k v).policy = s.policy := rfl
@[simp] theorem setLatch_settings (site : Site) (k : Fin 13) (v : Option Level) :
    (s.setLatch site k v).settings = s.settings := rfl
@[simp] theorem setLatch_pfail (site : Site) (k : Fin 13) (v : Option Level) :
    (s.setLatch site k v).pfail = s.pfail := rfl
@[simp] theorem setLatch_masterKeys (site : Site) (k : Fin 13) (v : Option Level) :
    (s.setLatch site k v).masterKeys = s.masterKeys := rfl
@[simp] theorem setLatch_raw (site : Site) (k : Fin 13) (v : Option Level) : (s.setLatch site k v).raw = s.raw := rfl
@[simp] theorem setLatch_bays (site : Site) (k : Fin 13) (v : Option Level) :
    (s.setLatch site k v).bays = s.bays := rfl
@[simp] theorem setLatch_lanes (site : Site) (k : Fin 13) (v : Option Level) :
    (s.setLatch site k v).lanes = s.lanes := rfl
@[simp] theorem setLatch_converter (site : Site) (k : Fin 13) (v : Option Level) :
    (s.setLatch site k v).converter = s.converter := rfl
@[simp] theorem setLatch_run (site : Site) (k : Fin 13) (v : Option Level) : (s.setLatch site k v).run = s.run := rfl
@[simp] theorem setLatch_table (site : Site) (k : Fin 13) (v : Option Level) :
    (s.setLatch site k v).table = s.table := rfl
@[simp] theorem setLatch_service (site : Site) (k : Fin 13) (v : Option Level) :
    (s.setLatch site k v).service = s.service := rfl
@[simp] theorem setLatch_dozing (site : Site) (k : Fin 13) (v : Option Level) :
    (s.setLatch site k v).dozing = s.dozing := rfl
@[simp] theorem setLatch_status (site : Site) (k : Fin 13) (v : Option Level) :
    (s.setLatch site k v).status = s.status := rfl
@[simp] theorem setLatch_requests (site : Site) (k : Fin 13) (v : Option Level) :
    (s.setLatch site k v).requests = s.requests := rfl
@[simp] theorem setLatch_replies (site : Site) (k : Fin 13) (v : Option Level) :
    (s.setLatch site k v).replies = s.replies := rfl
@[simp] theorem setLatch_frame (site : Site) (k : Fin 13) (v : Option Level) :
    (s.setLatch site k v).frame = s.frame := rfl

@[simp] theorem markDirty_pending (sec : StoreSection) : (s.markDirty sec).pending = s.pending := rfl
@[simp] theorem markDirty_now (sec : StoreSection) : (s.markDirty sec).now = s.now := rfl
@[simp] theorem markDirty_nonceDraws (sec : StoreSection) : (s.markDirty sec).nonceDraws = s.nonceDraws := rfl
@[simp] theorem markDirty_device (sec : StoreSection) : (s.markDirty sec).device = s.device := rfl
@[simp] theorem markDirty_save (sec : StoreSection) : (s.markDirty sec).save = s.save := rfl
@[simp] theorem markDirty_restarting (sec : StoreSection) : (s.markDirty sec).restarting = s.restarting := rfl
@[simp] theorem markDirty_waiters (sec : StoreSection) : (s.markDirty sec).waiters = s.waiters := rfl
@[simp] theorem markDirty_store (sec : StoreSection) : (s.markDirty sec).store = s.store := rfl
@[simp] theorem markDirty_oneWay (sec : StoreSection) : (s.markDirty sec).oneWay = s.oneWay := rfl
@[simp] theorem markDirty_policy (sec : StoreSection) : (s.markDirty sec).policy = s.policy := rfl
@[simp] theorem markDirty_settings (sec : StoreSection) : (s.markDirty sec).settings = s.settings := rfl
@[simp] theorem markDirty_pfail (sec : StoreSection) : (s.markDirty sec).pfail = s.pfail := rfl
@[simp] theorem markDirty_masterKeys (sec : StoreSection) : (s.markDirty sec).masterKeys = s.masterKeys := rfl
@[simp] theorem markDirty_raw (sec : StoreSection) : (s.markDirty sec).raw = s.raw := rfl
@[simp] theorem markDirty_bays (sec : StoreSection) : (s.markDirty sec).bays = s.bays := rfl
@[simp] theorem markDirty_lanes (sec : StoreSection) : (s.markDirty sec).lanes = s.lanes := rfl
@[simp] theorem markDirty_converter (sec : StoreSection) : (s.markDirty sec).converter = s.converter := rfl
@[simp] theorem markDirty_run (sec : StoreSection) : (s.markDirty sec).run = s.run := rfl
@[simp] theorem markDirty_table (sec : StoreSection) : (s.markDirty sec).table = s.table := rfl
@[simp] theorem markDirty_latches (sec : StoreSection) : (s.markDirty sec).latches = s.latches := rfl
@[simp] theorem markDirty_service (sec : StoreSection) : (s.markDirty sec).service = s.service := rfl
@[simp] theorem markDirty_dozing (sec : StoreSection) : (s.markDirty sec).dozing = s.dozing := rfl
@[simp] theorem markDirty_status (sec : StoreSection) : (s.markDirty sec).status = s.status := rfl
@[simp] theorem markDirty_requests (sec : StoreSection) : (s.markDirty sec).requests = s.requests := rfl
@[simp] theorem markDirty_replies (sec : StoreSection) : (s.markDirty sec).replies = s.replies := rfl
@[simp] theorem markDirty_frame (sec : StoreSection) : (s.markDirty sec).frame = s.frame := rfl

@[simp] theorem beginWrite_pending (sec : StoreSection) : (s.beginWrite sec).pending = s.pending := rfl
@[simp] theorem beginWrite_now (sec : StoreSection) : (s.beginWrite sec).now = s.now := rfl
@[simp] theorem beginWrite_nonceDraws (sec : StoreSection) : (s.beginWrite sec).nonceDraws = s.nonceDraws := rfl
@[simp] theorem beginWrite_device (sec : StoreSection) : (s.beginWrite sec).device = s.device := rfl
@[simp] theorem beginWrite_save (sec : StoreSection) : (s.beginWrite sec).save = s.save := rfl
@[simp] theorem beginWrite_restarting (sec : StoreSection) : (s.beginWrite sec).restarting = s.restarting := rfl
@[simp] theorem beginWrite_waiters (sec : StoreSection) : (s.beginWrite sec).waiters = s.waiters := rfl
@[simp] theorem beginWrite_store (sec : StoreSection) : (s.beginWrite sec).store = s.store := rfl
@[simp] theorem beginWrite_oneWay (sec : StoreSection) : (s.beginWrite sec).oneWay = s.oneWay := rfl
@[simp] theorem beginWrite_policy (sec : StoreSection) : (s.beginWrite sec).policy = s.policy := rfl
@[simp] theorem beginWrite_settings (sec : StoreSection) : (s.beginWrite sec).settings = s.settings := rfl
@[simp] theorem beginWrite_pfail (sec : StoreSection) : (s.beginWrite sec).pfail = s.pfail := rfl
@[simp] theorem beginWrite_masterKeys (sec : StoreSection) : (s.beginWrite sec).masterKeys = s.masterKeys := rfl
@[simp] theorem beginWrite_raw (sec : StoreSection) : (s.beginWrite sec).raw = s.raw := rfl
@[simp] theorem beginWrite_bays (sec : StoreSection) : (s.beginWrite sec).bays = s.bays := rfl
@[simp] theorem beginWrite_lanes (sec : StoreSection) : (s.beginWrite sec).lanes = s.lanes := rfl
@[simp] theorem beginWrite_converter (sec : StoreSection) : (s.beginWrite sec).converter = s.converter := rfl
@[simp] theorem beginWrite_run (sec : StoreSection) : (s.beginWrite sec).run = s.run := rfl
@[simp] theorem beginWrite_table (sec : StoreSection) : (s.beginWrite sec).table = s.table := rfl
@[simp] theorem beginWrite_latches (sec : StoreSection) : (s.beginWrite sec).latches = s.latches := rfl
@[simp] theorem beginWrite_service (sec : StoreSection) : (s.beginWrite sec).service = s.service := rfl
@[simp] theorem beginWrite_dozing (sec : StoreSection) : (s.beginWrite sec).dozing = s.dozing := rfl
@[simp] theorem beginWrite_status (sec : StoreSection) : (s.beginWrite sec).status = s.status := rfl
@[simp] theorem beginWrite_requests (sec : StoreSection) : (s.beginWrite sec).requests = s.requests := rfl
@[simp] theorem beginWrite_replies (sec : StoreSection) : (s.beginWrite sec).replies = s.replies := rfl
@[simp] theorem beginWrite_frame (sec : StoreSection) : (s.beginWrite sec).frame = s.frame := rfl

@[simp] theorem evalLine_pending (b : Bay) : (s.evalLine b).pending = s.pending := rfl
@[simp] theorem evalLine_now (b : Bay) : (s.evalLine b).now = s.now := rfl
@[simp] theorem evalLine_nonceDraws (b : Bay) : (s.evalLine b).nonceDraws = s.nonceDraws := rfl
@[simp] theorem evalLine_device (b : Bay) : (s.evalLine b).device = s.device := rfl
@[simp] theorem evalLine_save (b : Bay) : (s.evalLine b).save = s.save := rfl
@[simp] theorem evalLine_restarting (b : Bay) : (s.evalLine b).restarting = s.restarting := rfl
@[simp] theorem evalLine_waiters (b : Bay) : (s.evalLine b).waiters = s.waiters := rfl
@[simp] theorem evalLine_writer (b : Bay) : (s.evalLine b).writer = s.writer := rfl
@[simp] theorem evalLine_store (b : Bay) : (s.evalLine b).store = s.store := rfl
@[simp] theorem evalLine_oneWay (b : Bay) : (s.evalLine b).oneWay = s.oneWay := rfl
@[simp] theorem evalLine_policy (b : Bay) : (s.evalLine b).policy = s.policy := rfl
@[simp] theorem evalLine_settings (b : Bay) : (s.evalLine b).settings = s.settings := rfl
@[simp] theorem evalLine_pfail (b : Bay) : (s.evalLine b).pfail = s.pfail := rfl
@[simp] theorem evalLine_masterKeys (b : Bay) : (s.evalLine b).masterKeys = s.masterKeys := rfl
@[simp] theorem evalLine_raw (b : Bay) : (s.evalLine b).raw = s.raw := rfl
@[simp] theorem evalLine_lanes (b : Bay) : (s.evalLine b).lanes = s.lanes := rfl
@[simp] theorem evalLine_converter (b : Bay) : (s.evalLine b).converter = s.converter := rfl
@[simp] theorem evalLine_run (b : Bay) : (s.evalLine b).run = s.run := rfl
@[simp] theorem evalLine_table (b : Bay) : (s.evalLine b).table = s.table := rfl
@[simp] theorem evalLine_latches (b : Bay) : (s.evalLine b).latches = s.latches := rfl
@[simp] theorem evalLine_service (b : Bay) : (s.evalLine b).service = s.service := rfl
@[simp] theorem evalLine_dozing (b : Bay) : (s.evalLine b).dozing = s.dozing := rfl
@[simp] theorem evalLine_status (b : Bay) : (s.evalLine b).status = s.status := rfl
@[simp] theorem evalLine_requests (b : Bay) : (s.evalLine b).requests = s.requests := rfl
@[simp] theorem evalLine_replies (b : Bay) : (s.evalLine b).replies = s.replies := rfl
@[simp] theorem evalLine_frame (b : Bay) : (s.evalLine b).frame = s.frame := rfl

@[simp] theorem evalLines_pending : (s.evalLines).pending = s.pending := rfl
@[simp] theorem evalLines_now : (s.evalLines).now = s.now := rfl
@[simp] theorem evalLines_nonceDraws : (s.evalLines).nonceDraws = s.nonceDraws := rfl
@[simp] theorem evalLines_device : (s.evalLines).device = s.device := rfl
@[simp] theorem evalLines_save : (s.evalLines).save = s.save := rfl
@[simp] theorem evalLines_restarting : (s.evalLines).restarting = s.restarting := rfl
@[simp] theorem evalLines_waiters : (s.evalLines).waiters = s.waiters := rfl
@[simp] theorem evalLines_writer : (s.evalLines).writer = s.writer := rfl
@[simp] theorem evalLines_store : (s.evalLines).store = s.store := rfl
@[simp] theorem evalLines_oneWay : (s.evalLines).oneWay = s.oneWay := rfl
@[simp] theorem evalLines_policy : (s.evalLines).policy = s.policy := rfl
@[simp] theorem evalLines_settings : (s.evalLines).settings = s.settings := rfl
@[simp] theorem evalLines_pfail : (s.evalLines).pfail = s.pfail := rfl
@[simp] theorem evalLines_masterKeys : (s.evalLines).masterKeys = s.masterKeys := rfl
@[simp] theorem evalLines_raw : (s.evalLines).raw = s.raw := rfl
@[simp] theorem evalLines_lanes : (s.evalLines).lanes = s.lanes := rfl
@[simp] theorem evalLines_converter : (s.evalLines).converter = s.converter := rfl
@[simp] theorem evalLines_run : (s.evalLines).run = s.run := rfl
@[simp] theorem evalLines_table : (s.evalLines).table = s.table := rfl
@[simp] theorem evalLines_latches : (s.evalLines).latches = s.latches := rfl
@[simp] theorem evalLines_service : (s.evalLines).service = s.service := rfl
@[simp] theorem evalLines_dozing : (s.evalLines).dozing = s.dozing := rfl
@[simp] theorem evalLines_status : (s.evalLines).status = s.status := rfl
@[simp] theorem evalLines_requests : (s.evalLines).requests = s.requests := rfl
@[simp] theorem evalLines_replies : (s.evalLines).replies = s.replies := rfl
@[simp] theorem evalLines_frame : (s.evalLines).frame = s.frame := rfl

@[simp] theorem setPhase_pending (b : Bay) (p : Phase) : (s.setPhase b p).pending = s.pending := rfl
@[simp] theorem setPhase_now (b : Bay) (p : Phase) : (s.setPhase b p).now = s.now := rfl
@[simp] theorem setPhase_nonceDraws (b : Bay) (p : Phase) : (s.setPhase b p).nonceDraws = s.nonceDraws := rfl
@[simp] theorem setPhase_device (b : Bay) (p : Phase) : (s.setPhase b p).device = s.device := rfl
@[simp] theorem setPhase_save (b : Bay) (p : Phase) : (s.setPhase b p).save = s.save := rfl
@[simp] theorem setPhase_restarting (b : Bay) (p : Phase) : (s.setPhase b p).restarting = s.restarting := rfl
@[simp] theorem setPhase_waiters (b : Bay) (p : Phase) : (s.setPhase b p).waiters = s.waiters := rfl
@[simp] theorem setPhase_writer (b : Bay) (p : Phase) : (s.setPhase b p).writer = s.writer := rfl
@[simp] theorem setPhase_store (b : Bay) (p : Phase) : (s.setPhase b p).store = s.store := rfl
@[simp] theorem setPhase_oneWay (b : Bay) (p : Phase) : (s.setPhase b p).oneWay = s.oneWay := rfl
@[simp] theorem setPhase_policy (b : Bay) (p : Phase) : (s.setPhase b p).policy = s.policy := rfl
@[simp] theorem setPhase_settings (b : Bay) (p : Phase) : (s.setPhase b p).settings = s.settings := rfl
@[simp] theorem setPhase_pfail (b : Bay) (p : Phase) : (s.setPhase b p).pfail = s.pfail := rfl
@[simp] theorem setPhase_masterKeys (b : Bay) (p : Phase) : (s.setPhase b p).masterKeys = s.masterKeys := rfl
@[simp] theorem setPhase_raw (b : Bay) (p : Phase) : (s.setPhase b p).raw = s.raw := rfl
@[simp] theorem setPhase_lanes (b : Bay) (p : Phase) : (s.setPhase b p).lanes = s.lanes := rfl
@[simp] theorem setPhase_converter (b : Bay) (p : Phase) : (s.setPhase b p).converter = s.converter := rfl
@[simp] theorem setPhase_run (b : Bay) (p : Phase) : (s.setPhase b p).run = s.run := rfl
@[simp] theorem setPhase_table (b : Bay) (p : Phase) : (s.setPhase b p).table = s.table := rfl
@[simp] theorem setPhase_latches (b : Bay) (p : Phase) : (s.setPhase b p).latches = s.latches := rfl
@[simp] theorem setPhase_service (b : Bay) (p : Phase) : (s.setPhase b p).service = s.service := rfl
@[simp] theorem setPhase_dozing (b : Bay) (p : Phase) : (s.setPhase b p).dozing = s.dozing := rfl
@[simp] theorem setPhase_status (b : Bay) (p : Phase) : (s.setPhase b p).status = s.status := rfl
@[simp] theorem setPhase_requests (b : Bay) (p : Phase) : (s.setPhase b p).requests = s.requests := rfl
@[simp] theorem setPhase_replies (b : Bay) (p : Phase) : (s.setPhase b p).replies = s.replies := rfl
@[simp] theorem setPhase_frame (b : Bay) (p : Phase) : (s.setPhase b p).frame = s.frame := rfl

/-! ### Reading a record after an update -/

theorem bay_modBay (b c : Bay) (f : BayRec → BayRec) :
    (s.modBay b f).bay c = if b = c then f (s.bay b) else s.bay c := get_put s.bays b c _

@[simp] theorem bay_modBay_same (b : Bay) (f : BayRec → BayRec) : (s.modBay b f).bay b = f (s.bay b) := by
  simp [bay_modBay]

theorem bay_modBay_other {b c : Bay} (h : c ≠ b) (f : BayRec → BayRec) : (s.modBay b f).bay c = s.bay c := by
  simp [bay_modBay, h.symm]

@[simp] theorem bay_mapBays (b : Bay) (f : Bay → BayRec → BayRec) : (s.mapBays f).bay b = f b (s.bay b) := by
  simp [State.mapBays, State.bay]

theorem lane_modLane (l m : Lane) (f : LaneRec → LaneRec) :
    (s.modLane l f).lane m = if l = m then f (s.lane l) else s.lane m := get_put s.lanes l m _

@[simp] theorem lane_modLane_same (l : Lane) (f : LaneRec → LaneRec) : (s.modLane l f).lane l = f (s.lane l) := by
  simp [lane_modLane]

theorem lane_modLane_other {l m : Lane} (h : m ≠ l) (f : LaneRec → LaneRec) : (s.modLane l f).lane m = s.lane m := by
  simp [lane_modLane, h.symm]

@[simp] theorem lane_mapLanes (l : Lane) (f : Lane → LaneRec → LaneRec) : (s.mapLanes f).lane l = f l (s.lane l) := by
  simp [State.mapLanes, State.lane]

theorem bayCfg_modBayCfg (b c : Bay) (f : BaySettings → BaySettings) :
    (s.modBayCfg b f).bayCfg c = if b = c then f (s.bayCfg b) else s.bayCfg c := get_put s.settings.bays b c _

@[simp] theorem bayCfg_modBayCfg_same (b : Bay) (f : BaySettings → BaySettings) :
    (s.modBayCfg b f).bayCfg b = f (s.bayCfg b) := by
  simp [bayCfg_modBayCfg]

theorem bayCfg_modBayCfg_other {b c : Bay} (h : c ≠ b) (f : BaySettings → BaySettings) :
    (s.modBayCfg b f).bayCfg c = s.bayCfg c := by
  simp [bayCfg_modBayCfg, h.symm]

/-- An update that leaves a bay as it is changes nothing. -/
theorem modBay_of_same (b : Bay) (f : BayRec → BayRec) (h : f (s.bay b) = s.bay b) : s.modBay b f = s := by
  unfold State.modBay
  rw [h]
  unfold State.bay
  rw [put_get]

/-- An update that leaves a lane as it is changes nothing. -/
theorem modLane_of_same (l : Lane) (f : LaneRec → LaneRec) (h : f (s.lane l) = s.lane l) : s.modLane l f = s := by
  unfold State.modLane
  rw [h]
  unfold State.lane
  rw [put_get]

theorem latchOf_setLatch (site site' : Site) (k k' : Fin 13) (v : Option Level) :
    (s.setLatch site k v).latchOf site' k' = if site = site' ∧ k = k' then v else s.latchOf site' k' := by
  unfold State.latchOf State.setLatch
  dsimp only
  rw [get_put]
  by_cases h : site = site'
  · subst h
    rw [if_pos rfl, get_put]
    by_cases hk : k = k' <;> simp [hk]
  · simp [h]

/-- Two states that agree bay by bay have the same bays. -/
theorem bays_ext {s t : State} (h : ∀ b, t.bay b = s.bay b) : t.bays = s.bays := by
  apply Vector.ext
  intro i hi
  exact h ⟨i, hi⟩

/-- Two states that agree lane by lane have the same lanes. -/
theorem lanes_ext {s t : State} (h : ∀ l, t.lane l = s.lane l) : t.lanes = s.lanes := by
  apply Vector.ext
  intro i hi
  exact h ⟨i, hi⟩

@[simp] theorem modBay_lane (m : Lane) (b : Bay) (f : BayRec → BayRec) : (s.modBay b f).lane m = s.lane m := rfl
@[simp] theorem modBay_bayCfg (d : Bay) (b : Bay) (f : BayRec → BayRec) : (s.modBay b f).bayCfg d = s.bayCfg d := rfl
@[simp] theorem modBay_latchOf (x : Site) (y : Fin 13) (b : Bay) (f : BayRec → BayRec) :
    (s.modBay b f).latchOf x y = s.latchOf x y := rfl
@[simp] theorem mapBays_lane (m : Lane) (f : Bay → BayRec → BayRec) : (s.mapBays f).lane m = s.lane m := rfl
@[simp] theorem mapBays_bayCfg (d : Bay) (f : Bay → BayRec → BayRec) : (s.mapBays f).bayCfg d = s.bayCfg d := rfl
@[simp] theorem mapBays_latchOf (x : Site) (y : Fin 13) (f : Bay → BayRec → BayRec) :
    (s.mapBays f).latchOf x y = s.latchOf x y := rfl
@[simp] theorem modLane_bay (b : Bay) (l : Lane) (f : LaneRec → LaneRec) : (s.modLane l f).bay b = s.bay b := rfl
@[simp] theorem modLane_bayCfg (d : Bay) (l : Lane) (f : LaneRec → LaneRec) : (s.modLane l f).bayCfg d = s.bayCfg d := rfl
@[simp] theorem modLane_latchOf (x : Site) (y : Fin 13) (l : Lane) (f : LaneRec → LaneRec) :
    (s.modLane l f).latchOf x y = s.latchOf x y := rfl
@[simp] theorem mapLanes_bay (b : Bay) (f : Lane → LaneRec → LaneRec) : (s.mapLanes f).bay b = s.bay b := rfl
@[simp] theorem mapLanes_bayCfg (d : Bay) (f : Lane → LaneRec → LaneRec) : (s.mapLanes f).bayCfg d = s.bayCfg d := rfl
@[simp] theorem mapLanes_latchOf (x : Site) (y : Fin 13) (f : Lane → LaneRec → LaneRec) :
    (s.mapLanes f).latchOf x y = s.latchOf x y := rfl
@[simp] theorem modBayCfg_bay (b : Bay) (c : Bay) (f : BaySettings → BaySettings) : (s.modBayCfg c f).bay b = s.bay b := rfl
@[simp] theorem modBayCfg_lane (m : Lane) (b : Bay) (f : BaySettings → BaySettings) : (s.modBayCfg b f).lane m = s.lane m := rfl
@[simp] theorem modBayCfg_latchOf (x : Site) (y : Fin 13) (b : Bay) (f : BaySettings → BaySettings) :
    (s.modBayCfg b f).latchOf x y = s.latchOf x y := rfl
@[simp] theorem modBinding_lane (m : Lane) (b : Bay) (f : Binding → Binding) : (s.modBinding b f).lane m = s.lane m := rfl
@[simp] theorem modBinding_bayCfg (d : Bay) (b : Bay) (f : Binding → Binding) : (s.modBinding b f).bayCfg d = s.bayCfg d := rfl
@[simp] theorem modBinding_latchOf (x : Site) (y : Fin 13) (b : Bay) (f : Binding → Binding) :
    (s.modBinding b f).latchOf x y = s.latchOf x y := rfl
@[simp] theorem place_bay (b : Bay) (r : Reply) : (s.place r).bay b = s.bay b := rfl
@[simp] theorem place_lane (m : Lane) (r : Reply) : (s.place r).lane m = s.lane m := rfl
@[simp] theorem place_bayCfg (d : Bay) (r : Reply) : (s.place r).bayCfg d = s.bayCfg d := rfl
@[simp] theorem place_latchOf (x : Site) (y : Fin 13) (r : Reply) :
    (s.place r).latchOf x y = s.latchOf x y := rfl
@[simp] theorem setLatch_bay (b : Bay) (site : Site) (k : Fin 13) (v : Option Level) : (s.setLatch site k v).bay b = s.bay b := rfl
@[simp] theorem setLatch_lane (m : Lane) (site : Site) (k : Fin 13) (v : Option Level) : (s.setLatch site k v).lane m = s.lane m := rfl
@[simp] theorem setLatch_bayCfg (d : Bay) (site : Site) (k : Fin 13) (v : Option Level) : (s.setLatch site k v).bayCfg d = s.bayCfg d := rfl
@[simp] theorem markDirty_bay (b : Bay) (sec : StoreSection) : (s.markDirty sec).bay b = s.bay b := rfl
@[simp] theorem markDirty_lane (m : Lane) (sec : StoreSection) : (s.markDirty sec).lane m = s.lane m := rfl
@[simp] theorem markDirty_bayCfg (d : Bay) (sec : StoreSection) : (s.markDirty sec).bayCfg d = s.bayCfg d := rfl
@[simp] theorem markDirty_latchOf (x : Site) (y : Fin 13) (sec : StoreSection) :
    (s.markDirty sec).latchOf x y = s.latchOf x y := rfl
@[simp] theorem beginWrite_bay (b : Bay) (sec : StoreSection) : (s.beginWrite sec).bay b = s.bay b := rfl
@[simp] theorem beginWrite_lane (m : Lane) (sec : StoreSection) : (s.beginWrite sec).lane m = s.lane m := rfl
@[simp] theorem beginWrite_bayCfg (d : Bay) (sec : StoreSection) : (s.beginWrite sec).bayCfg d = s.bayCfg d := rfl
@[simp] theorem beginWrite_latchOf (x : Site) (y : Fin 13) (sec : StoreSection) :
    (s.beginWrite sec).latchOf x y = s.latchOf x y := rfl
@[simp] theorem evalLine_lane (m : Lane) (b : Bay) : (s.evalLine b).lane m = s.lane m := rfl
@[simp] theorem evalLine_bayCfg (d : Bay) (b : Bay) : (s.evalLine b).bayCfg d = s.bayCfg d := rfl
@[simp] theorem evalLine_latchOf (x : Site) (y : Fin 13) (b : Bay) :
    (s.evalLine b).latchOf x y = s.latchOf x y := rfl
@[simp] theorem evalLines_lane (m : Lane) : (s.evalLines).lane m = s.lane m := rfl
@[simp] theorem evalLines_bayCfg (d : Bay) : (s.evalLines).bayCfg d = s.bayCfg d := rfl
@[simp] theorem evalLines_latchOf (x : Site) (y : Fin 13) :
    (s.evalLines).latchOf x y = s.latchOf x y := rfl
@[simp] theorem setPhase_lane (m : Lane) (b : Bay) (p : Phase) : (s.setPhase b p).lane m = s.lane m := rfl
@[simp] theorem setPhase_bayCfg (d : Bay) (b : Bay) (p : Phase) : (s.setPhase b p).bayCfg d = s.bayCfg d := rfl
@[simp] theorem setPhase_latchOf (x : Site) (y : Fin 13) (b : Bay) (p : Phase) :
    (s.setPhase b p).latchOf x y = s.latchOf x y := rfl

end Sys2Proof.Machine
end

