-- ==== Sys2Proof/Laws/Bytes.lean ====
section
/-! SUPPORT. Numbers written as bytes and read back, and the fields of a body laid out in order. -/

namespace Sys2Proof.Machine

@[simp] theorem toBytes_length (n v : Nat) : (toBytes n v).length = n := by
  induction n with
  | zero => rfl
  | succ n ih => simp [toBytes, ih]

/-- Reading on from an accumulator. -/
theorem foldl_bytes (bs : List Byte) (acc : Nat) :
    bs.foldl (fun acc b => acc * 256 + b.toNat) acc = acc * 256 ^ bs.length + ofBytes bs := by
  induction bs generalizing acc with
  | nil => simp [ofBytes]
  | cons b bs ih =>
    have h : ofBytes (b :: bs) = b.toNat * 256 ^ bs.length + ofBytes bs := by
      show List.foldl _ (0 * 256 + b.toNat) bs = _
      rw [ih]
      simp
    rw [h, List.foldl_cons, ih, List.length_cons, pow_succ]
    ring

/-- The most significant byte first (R4). -/
theorem ofBytes_cons (b : Byte) (bs : List Byte) : ofBytes (b :: bs) = b.toNat * 256 ^ bs.length + ofBytes bs := by
  show List.foldl _ (0 * 256 + b.toNat) bs = _
  rw [foldl_bytes]
  simp

/-- The bytes of a number spell the number, less what does not fit. -/
theorem ofBytes_toBytes (n v : Nat) : ofBytes (toBytes n v) = v % 256 ^ n := by
  induction n with
  | zero => simp [toBytes, ofBytes, Nat.mod_one]
  | succ n ih =>
    have h : (BitVec.ofNat 8 (v / 256 ^ n)).toNat = v / 256 ^ n % 256 := rfl
    rw [toBytes, ofBytes_cons, ih, toBytes_length, h, pow_succ, Nat.mod_mul]
    ring

/-- A number that fits in its field is read back. -/
theorem ofBytes_toBytes_of_lt {n v : Nat} (h : v < 256 ^ n) : ofBytes (toBytes n v) = v := by
  rw [ofBytes_toBytes, Nat.mod_eq_of_lt h]

/-- `n` bytes spell less than 256 ^ n. -/
theorem ofBytes_lt (bs : List Byte) : ofBytes bs < 256 ^ bs.length := by
  induction bs with
  | nil => simp [ofBytes]
  | cons b bs ih =>
    rw [ofBytes_cons, List.length_cons, pow_succ]
    have hb : b.toNat + 1 ≤ 256 := b.isLt
    calc b.toNat * 256 ^ bs.length + ofBytes bs < b.toNat * 256 ^ bs.length + 256 ^ bs.length := by omega
      _ = (b.toNat + 1) * 256 ^ bs.length := by ring
      _ ≤ 256 * 256 ^ bs.length := Nat.mul_le_mul_right _ hb
      _ = 256 ^ bs.length * 256 := Nat.mul_comm _ _

/-- A field is less than what its bytes can spell. -/
theorem field_lt (bs : List Byte) (start n : Nat) : field bs start n < 256 ^ n := by
  have h := ofBytes_lt ((bs.drop start).take n)
  refine lt_of_lt_of_le h (Nat.pow_le_pow_right (by decide) ?_)
  simp

/-- The field at the front of a body. -/
theorem field_front (n v : Nat) (rest : List Byte) : field (toBytes n v ++ rest) 0 n = v % 256 ^ n := by
  have h : ((toBytes n v ++ rest).drop 0).take n = toBytes n v := by
    rw [List.drop_zero, List.take_left' (toBytes_length n v)]
  rw [field, h, ofBytes_toBytes]

/-- A field behind others. -/
theorem field_behind (front rest : List Byte) (start n : Nat) :
    field (front ++ rest) (front.length + start) n = field rest start n := by
  have h : (front ++ rest).drop (front.length + start) = rest.drop start := by simp [List.drop_append]
  rw [field, field, h]

/-- The last field of a body. -/
theorem field_all (n v : Nat) : field (toBytes n v) 0 n = v % 256 ^ n := by
  have h := field_front n v []
  rwa [List.append_nil] at h

/-- The field behind the first `k` bytes, whatever they are. -/
theorem field_skip {front rest : List Byte} {k start n : Nat} (hk : front.length = k) (h : k ≤ start) :
    field (front ++ rest) start n = field rest (start - k) n := by
  subst hk
  obtain ⟨d, rfl⟩ := Nat.exists_eq_add_of_le h
  rw [field_behind, Nat.add_sub_cancel_left]

/-- The part sends as many bytes as the host clocks (R169). -/
@[simp] theorem Frame.length_sent (f : Frame) (clocked : Nat) : (f.sent clocked).length = clocked := by
  simp only [Frame.sent, List.length_append, List.length_take, List.length_replicate]
  omega

end Sys2Proof.Machine
end

