-- ==== Sys2Proof/Laws/Writer.lean ====
section
/-! SUPPORT. What a trigger of the store writer does, and that a trigger with a dirty section never ends a walk. -/

namespace Sys2Proof.Machine

variable {s : State}

/-- A section marked dirty leaves the dirty set with a member. -/
theorem markDirty_dirty (s : State) (sec : StoreSection) : (s.markDirty sec).writer.dirty.isEmpty = false := by
  cases sec <;> simp [State.markDirty, Sections.set, Sections.isEmpty]

/-- With nothing failed, the pick is the first dirty section (R186). -/
theorem pick_of_dirty (w : Writer) (hf : w.failed = Sections.empty) (h : w.dirty.isEmpty = false) :
    ∃ sec, w.pick = some sec := by
  unfold Writer.pick
  rw [hf]
  unfold Sections.isEmpty at h
  rcases hd : w.dirty with ⟨t, p, c⟩
  rw [hd] at h
  cases t <;> cases p <;> cases c <;> simp_all [Sections.empty]

/-- A trigger with a dirty section changes the writer alone (R186). -/
theorem trigger_frame (h : s.writer.dirty.isEmpty = false) : s.trigger = { s with writer := s.trigger.writer } := by
  unfold State.trigger
  split
  · rfl
  · dsimp only
    split
    · rfl
    · unfold State.walkNext
      obtain ⟨sec, hsec⟩ := pick_of_dirty { s.writer with failed := Sections.empty } rfl h
      rw [hsec]
      rfl

/-- A FAULTED device's writer takes no trigger (R185). -/
theorem trigger_faulted (h : s.device = .faulted) : s.trigger = s := by
  simp [State.trigger, h]

/-- While a write runs, a trigger empties the failed set and no more (R186). -/
theorem trigger_writing (hd : s.device ≠ .faulted) {c : SectionCopy} (h : s.writer.writing = some c) :
    s.trigger = { s with writer := { s.writer with failed := Sections.empty } } := by
  simp [State.trigger, hd, h]

/-- On an IDLE writer a trigger begins the write of a dirty TABLE (R186). -/
theorem trigger_table (hd : s.device ≠ .faulted) (hw : s.writer.writing = none) (h : s.writer.dirty.table = true) :
    s.trigger.writer =
      { writing := some (.table s.table), dirty := { s.writer.dirty with table := false }
        failed := Sections.empty } := by
  simp [State.trigger, hd, hw, State.walkNext, Writer.pick, h, Sections.empty, State.beginWrite, Sections.set,
    State.copyOf]

/-- On an IDLE writer with TABLE clean, a trigger begins the write of a dirty POLICY (R186). -/
theorem trigger_policy (hd : s.device ≠ .faulted) (hw : s.writer.writing = none) (ht : s.writer.dirty.table = false)
    (h : s.writer.dirty.policy = true) :
    s.trigger.writer =
      { writing := some (.policy s.policy), dirty := { s.writer.dirty with policy := false }
        failed := Sections.empty } := by
  simp [State.trigger, hd, hw, State.walkNext, Writer.pick, ht, h, Sections.empty, State.beginWrite, Sections.set,
    State.copyOf]

/-- On an IDLE writer with SETTINGS alone dirty, a trigger begins its write (R186). -/
theorem trigger_settings (hd : s.device ≠ .faulted) (hw : s.writer.writing = none) (ht : s.writer.dirty.table = false)
    (hp : s.writer.dirty.policy = false) (h : s.writer.dirty.settings = true) :
    s.trigger.writer =
      { writing := some (.settings s.settings), dirty := { s.writer.dirty with settings := false }
        failed := Sections.empty } := by
  simp [State.trigger, hd, hw, State.walkNext, Writer.pick, ht, hp, h, Sections.empty, State.beginWrite, Sections.set,
    State.copyOf]

/-- A change of the table changes table and writer alone. -/
theorem setTable_frame (s : State) (t : List Entry) :
    s.setTable t = { s with table := t, writer := (s.setTable t).writer } := by
  unfold State.setTable
  split
  · rename_i h
    subst h
    rfl
  · rfl

/-- A flush changes table and writer alone. -/
theorem flushTable_frame (s : State) (t : List Entry) :
    s.flushTable t = { s with table := t, writer := (s.flushTable t).writer } := by
  unfold State.flushTable
  split
  · rename_i h
    subst h
    rfl
  · rw [trigger_frame (markDirty_dirty _ _)]
    rfl

@[simp] theorem setTable_table (s : State) (t : List Entry) : (s.setTable t).table = t := by rw [setTable_frame]

@[simp] theorem flushTable_table (s : State) (t : List Entry) : (s.flushTable t).table = t := by
  rw [flushTable_frame]

/-- A change of settings changes the writer alone (R78). -/
theorem settingsChanged_frame (s : State) : s.settingsChanged = { s with writer := s.settingsChanged.writer } := by
  unfold State.settingsChanged
  rw [trigger_frame (markDirty_dirty _ _)]
  rfl

end Sys2Proof.Machine
end

