-- ==== Sys2Proof/Laws/Frame.lean ====
section
/-! SUPPORT. What the operations on bays, lanes, commits and surveys can change: one lemma each, in the order of the
definitions. -/

namespace Sys2Proof.Machine

/-- `t` differs from `s` at most in bays, lanes, converter, run, random source, table, writer, latches and replies. -/
def CoreKept (s t : State) : Prop :=
  t = { s with
        bays := t.bays, lanes := t.lanes, converter := t.converter, run := t.run, nonceDraws := t.nonceDraws
        table := t.table, writer := t.writer, latches := t.latches, replies := t.replies }

namespace CoreKept

variable {s t u : State}

theorem refl (s : State) : CoreKept s s := rfl

theorem trans (h : CoreKept s t) (h' : CoreKept t u) : CoreKept s u := by
  unfold CoreKept at *
  rw [h', h]

theorem pending (h : CoreKept s t) : t.pending = s.pending := by rw [h]
theorem now (h : CoreKept s t) : t.now = s.now := by rw [h]
theorem device (h : CoreKept s t) : t.device = s.device := by rw [h]
theorem save (h : CoreKept s t) : t.save = s.save := by rw [h]
theorem restarting (h : CoreKept s t) : t.restarting = s.restarting := by rw [h]
theorem waiters (h : CoreKept s t) : t.waiters = s.waiters := by rw [h]
theorem store (h : CoreKept s t) : t.store = s.store := by rw [h]
theorem oneWay (h : CoreKept s t) : t.oneWay = s.oneWay := by rw [h]
theorem policy (h : CoreKept s t) : t.policy = s.policy := by rw [h]
theorem settings (h : CoreKept s t) : t.settings = s.settings := by rw [h]
theorem pfail (h : CoreKept s t) : t.pfail = s.pfail := by rw [h]
theorem masterKeys (h : CoreKept s t) : t.masterKeys = s.masterKeys := by rw [h]
theorem raw (h : CoreKept s t) : t.raw = s.raw := by rw [h]
theorem service (h : CoreKept s t) : t.service = s.service := by rw [h]
theorem dozing (h : CoreKept s t) : t.dozing = s.dozing := by rw [h]
theorem status (h : CoreKept s t) : t.status = s.status := by rw [h]
theorem requests (h : CoreKept s t) : t.requests = s.requests := by rw [h]
theorem frame (h : CoreKept s t) : t.frame = s.frame := by rw [h]

end CoreKept

open CoreKept

/-- An operation folded over a list keeps what each of its steps keeps. -/
theorem foldl_core {α : Type} {f : State → α → State} (h : ∀ s a, CoreKept s (f s a)) (l : List α) (s : State) :
    CoreKept s (l.foldl f s) := by
  induction l generalizing s with
  | nil => exact refl s
  | cons a l ih => exact (h s a).trans (ih _)

variable (s : State)

/-! ### Plain updates -/

theorem modBay_core (b : Bay) (f : BayRec → BayRec) : CoreKept s (s.modBay b f) := rfl
theorem mapBays_core (f : Bay → BayRec → BayRec) : CoreKept s (s.mapBays f) := rfl
theorem modLane_core (l : Lane) (f : LaneRec → LaneRec) : CoreKept s (s.modLane l f) := rfl
theorem mapLanes_core (f : Lane → LaneRec → LaneRec) : CoreKept s (s.mapLanes f) := rfl
theorem modBinding_core (b : Bay) (f : Binding → Binding) : CoreKept s (s.modBinding b f) := rfl
theorem setRun_core (x : Option SurveyRun) : CoreKept s { s with run := x } := rfl
theorem place_core (r : Reply) : CoreKept s (s.place r) := rfl
theorem reply_core (r : Request) (res : Result) (body : List Byte) : CoreKept s (s.reply r res body) := rfl
theorem setLatch_core (site : Site) (k : Fin 13) (v : Option Level) : CoreKept s (s.setLatch site k v) := rfl
theorem evalLine_core (b : Bay) : CoreKept s (s.evalLine b) := rfl
theorem evalLines_core : CoreKept s s.evalLines := rfl
theorem setPhase_core (b : Bay) (p : Phase) : CoreKept s (s.setPhase b p) := rfl

/-- A long request's reply changes the replies alone. -/
theorem placeLong_frame (r : Bool) (ticket : Byte) (k : ReqKind) (res : Result) (body : List Byte) :
    s.placeLong r ticket k res body = { s with replies := (s.placeLong r ticket k res body).replies } := by
  unfold State.placeLong
  split <;> rfl

theorem placeLong_core (r : Bool) (ticket : Byte) (k : ReqKind) (res : Result) (body : List Byte) :
    CoreKept s (s.placeLong r ticket k res body) := by
  rw [placeLong_frame]
  rfl

/-- A latch changes the latches alone (R157). -/
theorem latchPair_frame (site : Site) (k : Fin 13) (lv : Level) :
    s.latchPair site k lv = { s with latches := (s.latchPair site k lv).latches } := by
  unfold State.latchPair
  split <;> rfl

theorem latch_frame (site : Site) (k : Kind) : s.latch site k = { s with latches := (s.latch site k).latches } :=
  latchPair_frame s site k.code _

theorem latch_core (site : Site) (k : Kind) : CoreKept s (s.latch site k) := by
  rw [latch_frame]
  rfl

theorem setTable_core (t : List Entry) : CoreKept s (s.setTable t) := by
  rw [setTable_frame]
  rfl

theorem flushTable_core (t : List Entry) : CoreKept s (s.flushTable t) := by
  rw [flushTable_frame]
  rfl

/-! ### Levels and permits -/

theorem latchInk_frame (b : Bay) (x y : InkState) :
    s.latchInk b x y = { s with latches := (s.latchInk b x y).latches } := by
  cases x <;> cases y <;> first | rfl | exact latch_frame s _ _

theorem latchInk_core (b : Bay) (x y : InkState) : CoreKept s (s.latchInk b x y) := by
  rw [latchInk_frame]
  rfl

/-- A computation of the ink state changes bays and latches alone (R124, R125). -/
theorem computeInk_frame (b : Bay) :
    s.computeInk b = { s with bays := (s.computeInk b).bays, latches := (s.computeInk b).latches } := by
  unfold State.computeInk
  split
  · rfl
  · dsimp only
    rw [latchInk_frame]
    rfl

theorem computeInk_core (b : Bay) : CoreKept s (s.computeInk b) := by
  rw [computeInk_frame]
  rfl

/-! ### Surveys -/

/-- The end of a run changes the run and the replies alone (R154). -/
theorem endRun_frame : s.endRun = { s with run := s.endRun.run, replies := s.endRun.replies } := by
  unfold State.endRun
  split
  · rfl
  · rw [placeLong_frame]

theorem startPass_frame (r : SurveyRun) :
    s.startPass r = { s with bays := (s.startPass r).bays, run := (s.startPass r).run } := rfl

/-- The passes of a run change bays, run and replies alone (R153). -/
theorem startPasses_frame (n : Nat) :
    State.startPasses n s =
      { s with
        bays := (State.startPasses n s).bays, run := (State.startPasses n s).run
        replies := (State.startPasses n s).replies } := by
  induction n generalizing s with
  | zero =>
    unfold State.startPasses
    rw [endRun_frame]
  | succ n ih =>
    unfold State.startPasses
    cases h : s.run with
    | none => rfl
    | some r =>
      dsimp only
      cases h' : (s.startPass r).run with
      | none => rfl
      | some r' =>
        dsimp only
        split
        · rfl
        · rw [ih]
          rfl

theorem passCheck_frame :
    s.passCheck = { s with bays := s.passCheck.bays, run := s.passCheck.run, replies := s.passCheck.replies } := by
  unfold State.passCheck
  split
  · rfl
  · split
    · rfl
    · exact startPasses_frame s _

theorem passCheck_core : CoreKept s s.passCheck := by
  rw [passCheck_frame]
  rfl

theorem startPasses_core (n : Nat) : CoreKept s (State.startPasses n s) := by
  rw [startPasses_frame]
  rfl

theorem discardConversion_frame (b : Bay) :
    s.discardConversion b = { s with converter := (s.discardConversion b).converter } := by
  unfold State.discardConversion
  split
  · rfl
  · split <;> rfl

theorem discardConversion_core (b : Bay) : CoreKept s (s.discardConversion b) := by
  rw [discardConversion_frame]
  rfl

/-- Leaving ACTIVE changes bays, converter, run and replies alone (R139, R149, R153, R154). -/
theorem leftActive_frame (b : Bay) (removed : Bool) :
    s.leftActive b removed =
      { s with
        bays := (s.leftActive b removed).bays, converter := (s.leftActive b removed).converter
        run := (s.leftActive b removed).run, replies := (s.leftActive b removed).replies } := by
  unfold State.leftActive
  rw [discardConversion_frame]
  dsimp only
  split
  · rfl
  · rw [passCheck_frame]
    rfl

theorem leftActive_core (b : Bay) (removed : Bool) : CoreKept s (s.leftActive b removed) := by
  rw [leftActive_frame]
  rfl

/-! ### Commits -/

theorem shadowIfSaving_frame (b : Bay) :
    s.shadowIfSaving b =
      { s with table := (s.shadowIfSaving b).table, writer := (s.shadowIfSaving b).writer } := by
  unfold State.shadowIfSaving
  split
  · rfl
  · rw [flushTable_frame]

/-- Outside the save, a change of the commit record writes no table (R69). -/
theorem shadowIfSaving_none (b : Bay) (h : s.save = .none) : s.shadowIfSaving b = s := by
  simp [State.shadowIfSaving, h]

/-- A change of a bay's commit record or figures touches its bay, table and writer alone (R119). -/
theorem changeCommit_frame (b : Bay) (f : Binding → Binding) :
    s.changeCommit b f =
      { s.modBinding b f with table := (s.changeCommit b f).table, writer := (s.changeCommit b f).writer } := by
  unfold State.changeCommit
  rw [shadowIfSaving_frame]

theorem changeCommit_core (b : Bay) (f : Binding → Binding) : CoreKept s (s.changeCommit b f) := by
  rw [changeCommit_frame]
  rfl

/-- Outside the save, it is the change of the binding alone. -/
theorem changeCommit_none (b : Bay) (f : Binding → Binding) (h : s.save = .none) :
    s.changeCommit b f = s.modBinding b f := shadowIfSaving_none _ _ h

theorem raiseHigh_core (b : Bay) (c : Nat) : CoreKept s (s.raiseHigh b c) := setTable_core s _

theorem addEvidence_core (b : Bay) (k : EvidenceKind) : CoreKept s (s.addEvidence b k) := by
  unfold State.addEvidence
  split
  · exact refl s
  · split
    · exact refl s
    · dsimp only
      split
      · exact (modBinding_core s _ _).trans
          ((flushTable_core _ _).trans ((latch_core _ _ _).trans (evalLine_core _ _)))
      · exact modBinding_core s _ _

theorem checkCounter_core (b : Bay) (c : Nat) : CoreKept s (s.checkCounter b c) := by
  unfold State.checkCounter
  split
  · exact refl s
  · split
    · exact addEvidence_core s _ _
    · exact raiseHigh_core s _ _

theorem evalTriggers_core (b : Bay) (n : Nat) : CoreKept s (s.evalTriggers b n) := by
  unfold State.evalTriggers
  split
  · exact refl s
  · split
    · exact (modBay_core s _ _).trans (changeCommit_core _ _ _)
    · exact refl s

theorem evalStep_core (b : Bay) : CoreKept s (s.evalStep b) := evalTriggers_core s _ _

theorem evalForSave_core : CoreKept s s.evalForSave := foldl_core (fun s b => evalTriggers_core s b 1) _ _

theorem handOn_core (b : Bay) : CoreKept s (s.handOn b) := (computeInk_core s b).trans (evalStep_core _ b)

theorem shadowAll_core : CoreKept s s.shadowAll := foldl_core (fun s _ => setTable_core s _) _ _

theorem completeRelease_core (b : Bay) (rel : Release) (res : Result) :
    CoreKept s (s.completeRelease b rel res) := by
  unfold State.completeRelease
  split
  · exact refl s
  · exact (modBay_core s _ _).trans
      ((evalLine_core _ _).trans ((leftActive_core _ _ _).trans (placeLong_core _ _ _ _ _ _)))

theorem placeFinal_core (b : Bay) : CoreKept s (s.placeFinal b) :=
  (modBay_core s _ _).trans (changeCommit_core _ _ _)

theorem afterIdle_core (b : Bay) (fin : Bool) : CoreKept s (s.afterIdle b fin) := by
  unfold State.afterIdle
  split
  · exact refl s
  · split
    · split
      · exact completeRelease_core s _ _ _
      · exact placeFinal_core s _
    · exact evalStep_core s _

theorem afterHalt_core (b : Bay) : CoreKept s (s.afterHalt b) := by
  unfold State.afterHalt
  split
  · exact refl s
  · split
    · exact completeRelease_core s _ _ _
    · exact refl s

theorem launch_core (b : Bay) (fin : Bool) : CoreKept s (s.launch b fin) := changeCommit_core s _ _

theorem commitComplete_core (b : Bay) (c : Nat) (fin : Bool) : CoreKept s (s.commitComplete b c fin) :=
  (changeCommit_core s _ _).trans ((computeInk_core _ _).trans (afterIdle_core _ _ _))

theorem stopCommits_core (b : Bay) (k : EvidenceKind) : CoreKept s (s.stopCommits b k) :=
  (addEvidence_core s _ _).trans ((changeCommit_core _ _ _).trans
    ((latch_core _ _ _).trans ((computeInk_core _ _).trans (afterHalt_core _ _))))

theorem flightUnknown_core (b : Bay) : CoreKept s (s.flightUnknown b) := by
  unfold State.flightUnknown
  split
  · exact refl s
  · split
    · exact refl s
    · exact (changeCommit_core s _ _).trans ((latch_core _ _ _).trans (afterHalt_core _ _))

theorem lostAdvance_core (b : Bay) : CoreKept s (s.lostAdvance b) := by
  unfold State.lostAdvance
  split
  · exact refl s
  · split <;> first | exact refl s | exact (modBay_core s _ _).trans (changeCommit_core _ _ _)

theorem advanceCounter_core (b : Bay) (c : Nat) : CoreKept s (s.advanceCounter b c) := by
  unfold State.advanceCounter
  split
  · exact refl s
  · split <;> try exact refl s
    dsimp only
    split
    · exact (raiseHigh_core s _ _).trans (commitComplete_core _ _ _ _)
    · split <;> exact (raiseHigh_core s _ _).trans (stopCommits_core _ _ _)

theorem reconcileCounter_core (b : Bay) (c : Nat) : CoreKept s (s.reconcileCounter b c) := by
  unfold State.reconcileCounter
  split
  · exact refl s
  · split <;> try exact refl s
    dsimp only
    split
    · exact (checkCounter_core s _ _).trans (commitComplete_core _ _ _ _)
    · exact (checkCounter_core s _ _).trans
        ((changeCommit_core _ _ _).trans ((computeInk_core _ _).trans (afterIdle_core _ _ _)))

theorem withdraw_core (b : Bay) : CoreKept s (s.withdraw b) := by
  unfold State.withdraw
  split
  · exact refl s
  · split
    · have h := (modBay_core s b fun r => { r with slot := none }).trans
        (changeCommit_core _ b fun bd => bd.setCommit .idle)
      dsimp only
      split
      · exact h.trans (completeRelease_core _ _ _ _)
      · exact h
    · exact refl s

theorem abandon_core (b : Bay) : CoreKept s (s.abandon b) := rfl

theorem unbind_core (b : Bay) (next : Phase) (removed : Bool) : CoreKept s (s.unbind b next removed) := by
  unfold State.unbind
  split
  · exact refl s
  · rename_i bd _
    have h := (flushTable_core s (s.withEntry b fun e => { bd.shadow e with bay := none })).trans
      (modBay_core _ b fun r =>
        { r with phase := next, thresholds := r.staged.getD r.thresholds, staged := none, counter := 0 })
    dsimp only
    cases bd.commit.release with
    | none =>
      dsimp only
      split
      · exact h.trans ((evalLine_core _ _).trans (leftActive_core _ _ _))
      · exact h.trans (evalLine_core _ _)
    | some rel =>
      dsimp only
      split
      · exact h.trans ((placeLong_core _ _ _ _ _ _).trans ((evalLine_core _ _).trans (leftActive_core _ _ _)))
      · exact h.trans ((placeLong_core _ _ _ _ _ _).trans (evalLine_core _ _))

theorem enterRejected_core (b : Bay) (reason : RejectReason) : CoreKept s (s.enterRejected b reason) :=
  (setPhase_core s _ _).trans (latch_core _ _ _)

theorem badResponse_core (b : Bay) : CoreKept s (s.badResponse b) :=
  (unbind_core s _ _ _).trans (latch_core _ _ _)

theorem leavePhase_core (b : Bay) (next : Phase) (removed : Bool) : CoreKept s (s.leavePhase b next removed) := by
  unfold State.leavePhase
  split
  · exact unbind_core s _ _ _
  · exact setPhase_core s _ _

/-! ### Binding -/

theorem bind_core (b : Bay) (rec' : TagRecord) (k : KeySlot) (c0 : Nat) : CoreKept s (s.bind b rec' k c0) := by
  unfold State.bind
  dsimp only
  split
  · exact (modBay_core s _ _).trans ((flushTable_core _ _).trans ((computeInk_core _ _).trans
      ((latch_core _ _ _).trans ((latch_core _ _ _).trans (evalStep_core _ _)))))
  · exact (modBay_core s _ _).trans ((flushTable_core _ _).trans ((computeInk_core _ _).trans
      ((latch_core _ _ _).trans (evalStep_core _ _))))

theorem identified_core (b : Bay) (rec' : TagRecord) (c0 : Nat) : CoreKept s (s.identified b rec' c0) := by
  unfold State.identified
  split
  · exact enterRejected_core s _ _
  · split
    · exact (enterRejected_core s _ _).trans ((flushTable_core _ _).trans (latch_core _ _ _))
    · split
      · exact bind_core s _ _ _ _
      · exact enterRejected_core s _ _

/-! ### Lanes -/

theorem onLane_core (l : Lane) (r : Running) : CoreKept s (s.onLane l r) := rfl

theorem sendReadRecord_core (l : Lane) (r : Running) (n : Nat) : CoreKept s (s.sendReadRecord l r n) := rfl

theorem sendChallenge_core (l : Lane) (r : Running) (n : Nat) : CoreKept s (s.sendChallenge l r n) := rfl

theorem sendAdvance_core (l : Lane) (r : Running) (nonce : Key) : CoreKept s (s.sendAdvance l r nonce) := rfl

theorem tellOwner_core (b : Bay) (op : OpKind) : CoreKept s (s.tellOwner b op) := by
  cases op
  · unfold State.tellOwner
    dsimp only
    split
    · exact setPhase_core s _ _
    · exact refl s
  · exact launch_core s _ _
  · exact refl s
  · exact launch_core s _ _

theorem startOp_core (l : Lane) (p : Position) (op : OpKind) : CoreKept s (s.startOp l p op) := by
  unfold State.startOp
  dsimp only
  split
  · exact (modBay_core s _ _).trans ((modLane_core _ _ _).trans
      ((tellOwner_core _ _ _).trans (sendReadRecord_core _ _ _ _)))
  · exact (modBay_core s _ _).trans ((modLane_core _ _ _).trans
      ((tellOwner_core _ _ _).trans (sendChallenge_core _ _ _ _)))

theorem arbitrate_core (l : Lane) : CoreKept s (s.arbitrate l) := by
  unfold State.arbitrate
  split
  · exact refl s
  · split
    · exact startOp_core s _ _ _
    · exact refl s

theorem arbitrateAll_core : CoreKept s s.arbitrateAll := foldl_core arbitrate_core _ _

theorem freeLane_core (l : Lane) : CoreKept s (s.freeLane l) := (modLane_core s _ _).trans (arbitrate_core _ _)

theorem endOperation_core (l : Lane) (owner : State → State) (h : ∀ t, CoreKept t (owner t)) :
    CoreKept s (s.endOperation l owner) :=
  (modLane_core s _ _).trans ((h _).trans (freeLane_core _ _))

theorem failIdentify_core (l : Lane) (b : Bay) (reason : RejectReason) : CoreKept s (s.failIdentify l b reason) :=
  endOperation_core s l _ fun t => enterRejected_core t _ _

theorem recordReply_core (l : Lane) (r : Running) (bytes : List Byte) : CoreKept s (s.recordReply l r bytes) := by
  unfold State.recordReply
  dsimp only
  split
  · split
    · exact failIdentify_core s _ _ _
    · exact sendChallenge_core s _ _ _
  · split
    · exact sendReadRecord_core s _ _ _
    · exact failIdentify_core s _ _ _

theorem challengeCounter_core (l : Lane) (r : Running) (c : Nat) : CoreKept s (s.challengeCounter l r c) := by
  unfold State.challengeCounter
  dsimp only
  split
  · split
    · exact endOperation_core s l _ fun t => identified_core t _ _ _
    · exact refl s
  · exact (checkCounter_core s _ _).trans (sendAdvance_core _ _ _ _)
  · exact (checkCounter_core s _ _).trans (sendAdvance_core _ _ _ _)
  · exact endOperation_core s l _ fun t => reconcileCounter_core t _ _

theorem challengeMismatch_core (l : Lane) (r : Running) : CoreKept s (s.challengeMismatch l r) := by
  unfold State.challengeMismatch
  dsimp only
  split
  · exact failIdentify_core s _ _ _
  all_goals exact endOperation_core s l _ fun t => badResponse_core t _

theorem challengeNone_core (l : Lane) (r : Running) : CoreKept s (s.challengeNone l r) := by
  unfold State.challengeNone
  dsimp only
  split
  · exact failIdentify_core s _ _ _
  all_goals exact endOperation_core s l _ fun t => flightUnknown_core t _

theorem judgeReply_core (l : Lane) (r : Running) (bytes : List Byte) : CoreKept s (s.judgeReply l r bytes) := by
  unfold State.judgeReply
  dsimp only
  split
  · exact recordReply_core s _ _ _
  · split
    · exact challengeCounter_core s _ _ _
    · exact challengeMismatch_core s _ _
  · split
    · exact endOperation_core s l _ fun t => advanceCounter_core t _ _
    · exact endOperation_core s l _ fun t => lostAdvance_core t _

theorem tagReply_core (l : Lane) (bytes : List Byte) : CoreKept s (s.tagReply l bytes) := by
  unfold State.tagReply
  split
  · exact refl s
  · split
    · exact refl s
    · split
      · split
        · exact freeLane_core s _
        · exact judgeReply_core s _ _ _
      · exact refl s

theorem noReply_core (l : Lane) (r : Running) : CoreKept s (s.noReply l r) := by
  unfold State.noReply
  dsimp only
  split
  · split
    · exact sendReadRecord_core s _ _ _
    · exact failIdentify_core s _ _ _
  · split
    · exact sendChallenge_core s _ _ _
    · exact challengeNone_core s _ _
  · exact endOperation_core s l _ fun t => lostAdvance_core t _

theorem replyExpiry_core (l : Lane) : CoreKept s (s.replyExpiry l) := by
  unfold State.replyExpiry
  split
  · exact refl s
  · split
    · exact refl s
    · split
      · split
        · exact freeLane_core s _
        · exact noReply_core s _ _
      · exact refl s

theorem commandEnd_core (l : Lane) : CoreKept s (s.commandEnd l) := by
  unfold State.commandEnd
  split
  · exact refl s
  · split
    · exact refl s
    · exact modLane_core s _ _

/-! ### Converter and refill watch -/

theorem refreshDue_frame :
    s.refreshDue = { s with bays := s.refreshDue.bays, lanes := s.refreshDue.lanes } := rfl

/-- The converter arbiter changes bays, lanes, converter and run alone (R138). -/
theorem converterArbiter_frame :
    s.converterArbiter =
      { s with
        bays := s.converterArbiter.bays, lanes := s.converterArbiter.lanes
        converter := s.converterArbiter.converter, run := s.converterArbiter.run } := by
  unfold State.converterArbiter
  split
  · split
    · rfl
    · split <;> rfl
  · rfl

theorem settleConverter_frame :
    s.settleConverter =
      { s with
        bays := s.settleConverter.bays, lanes := s.settleConverter.lanes
        converter := s.settleConverter.converter, run := s.settleConverter.run } := by
  unfold State.settleConverter
  rw [converterArbiter_frame]
  rfl

theorem settleConverter_core : CoreKept s s.settleConverter := by
  rw [settleConverter_frame]
  rfl

theorem runArbiters_core : CoreKept s s.runArbiters := (arbitrateAll_core s).trans (settleConverter_core _)

theorem reinsertStep_core (b : Bay) (bd : Binding) (n : Nat) : CoreKept s (s.reinsertStep b bd n) := by
  unfold State.reinsertStep
  split
  · split
    · exact addEvidence_core s _ _
    · exact refl s
  all_goals exact refl s

theorem counterStep_core (b : Bay) (bd : Binding) (n : Nat) : CoreKept s (s.counterStep b bd n) := by
  unfold State.counterStep
  split
  · split
    · exact (modBay_core s _ _).trans (addEvidence_core _ _ _)
    · exact modBay_core s _ _
  · exact modBay_core s _ _

theorem lastSensedStep_core (b : Bay) (n : Nat) : CoreKept s (s.lastSensedStep b n) :=
  (setTable_core s _).trans (modBinding_core _ _ _)

theorem survey_core (b : Bay) (bd : Binding) (raw : Nat) : CoreKept s (s.survey b bd raw) :=
  (reinsertStep_core s _ _ _).trans ((counterStep_core _ _ _ _).trans (lastSensedStep_core _ _ _))

theorem bayReading_core (b : Bay) (discard : Bool) (raw : Nat) : CoreKept s (s.bayReading b discard raw) := by
  have ended : ∀ (j : State) (f : SurveyRun → SurveyRun), CoreKept s j → CoreKept s (State.passCheck
      { (if j.isActive b then j.modBay b fun r => { r with surveyTimer := some 0 } else j) with
        run := (if j.isActive b then j.modBay b fun r => { r with surveyTimer := some 0 } else j).run.map f }) := by
    intro j f h
    refine CoreKept.trans ?_ (passCheck_core _)
    split
    · exact h.trans ((modBay_core j _ _).trans (setRun_core _ _))
    · exact h.trans (setRun_core j _)
  unfold State.bayReading
  dsimp only
  apply ended
  split
  · exact survey_core s _ _ _
  · exact refl s

theorem laneReading_core (l : Lane) (raw : Nat) : CoreKept s (s.laneReading l raw) := by
  have ended : ∀ (j : State) (c : Bool), CoreKept s j → CoreKept s (if c then j.arbitrate l else j) := by
    intro j c h
    split
    · exact h.trans (arbitrate_core j l)
    · exact h
  unfold State.laneReading
  apply ended
  split
  · exact (modLane_core s _ _).trans (latch_core _ _ _)
  · exact modLane_core s _ _

theorem conversionComplete_core (raw : Nat) : CoreKept s (s.conversionComplete raw) := by
  unfold State.conversionComplete
  have idle : CoreKept s { s with converter := none } := rfl
  split
  · exact refl s
  · dsimp only
    split
    · exact idle.trans ((bayReading_core _ _ _ _).trans (settleConverter_core _))
    · exact idle.trans ((laneReading_core _ _ _).trans (settleConverter_core _))

/-! ### Metering -/

theorem tallyEntry_core (e : TallyEntry) : CoreKept s (s.tallyEntry e) := by
  unfold State.tallyEntry
  split
  · unfold State.tallyBay
    split
    · exact latch_core s _ _
    · exact modBay_core s _ _
    · exact modBay_core s _ _
  · exact refl s

theorem handOnAll_core (chosen : Bay → Bool) : CoreKept s (s.handOnAll chosen) := by
  refine foldl_core (fun t b => ?_) _ _
  split
  · exact handOn_core t b
  · exact refl t

theorem applyTally_core (body : TallyBody) : CoreKept s (s.applyTally body) := by
  unfold State.applyTally
  dsimp only
  have applied : CoreKept s (s.applyEntries body.entries) := foldl_core tallyEntry_core _ _
  refine CoreKept.trans ?_ (CoreKept.trans (handOnAll_core _ _) (runArbiters_core _))
  split
  · exact applied.trans (mapBays_core _ _)
  · exact applied

theorem applyPurge_core (b : Bay) (ms : Nat) : CoreKept s (s.applyPurge b ms) := by
  unfold State.applyPurge
  split
  · exact latch_core s _ _
  all_goals exact (modBay_core s _ _).trans ((handOnAll_core _ _).trans (runArbiters_core _))

theorem applyReturn_core (b : Bay) (bd : Binding) (x : Nat) : CoreKept s (s.applyReturn b bd x) :=
  (modBinding_core s _ _).trans
    ((withdraw_core _ _).trans ((handOnAll_core _ _).trans (runArbiters_core _)))

end Sys2Proof.Machine
end

