-- ==== Sys2Proof/Laws/Meter.lean ====
section
/-! SUPPORT. The metering arithmetic: what a contribution, a charge, a credit and a completion leave; and what a
new ink state and a release leave of a binding. -/

namespace Sys2Proof.Machine

/-- A contribution and its remainder lose nothing (R81). -/
theorem contribution_exact (n v k r : Nat) :
    n * v * k + r = 1024 * (contribution n v k r).1 + (contribution n v k r).2 := by
  show n * v * k + r = 1024 * ((n * v * k + r) / 1024) + (n * v * k + r) % 1024
  omega

theorem contribution_remainder_lt (n v k r : Nat) : (contribution n v k r).2 < 1024 :=
  Nat.mod_lt _ (by decide)

/-- Under the ceiling flag nothing is added (R85). -/
theorem charge_ceiling {a : Account} (h : a.ceiling = true) (c : Nat) : a.charge c = a := by
  simp [Account.charge, h]

/-- A carry within the headroom (R84). -/
theorem charge_within {a : Account} (h : a.ceiling = false) {c : Nat} (hq : (a.fine + c) / tuInFl ≤ a.headroom) :
    a.charge c = { a with pending := a.pending + (a.fine + c) / tuInFl, fine := (a.fine + c) % tuInFl } := by
  simp [Account.charge, h, hq]

/-- A carry beyond the headroom sets the ceiling flag (R85). -/
theorem charge_beyond {a : Account} (h : a.ceiling = false) {c : Nat} (hq : a.headroom < (a.fine + c) / tuInFl) :
    a.charge c = { a with pending := maxTu - a.committed, fine := 0, ceiling := true } := by
  simp [Account.charge, h, Nat.not_le.mpr hq]

/-- A credit touches fine, pending and credited alone (R88). -/
theorem credit_frame (a : Account) (x : Nat) :
    (a.credit x).1 =
      { a with
        fine := (a.credit x).1.fine, pending := (a.credit x).1.pending, credited := (a.credit x).1.credited } := rfl

/-- A credit applies at most what it is given (R88). -/
theorem credit_applied_le (a : Account) (x : Nat) : (a.credit x).2 ≤ x := by
  show min x a.fine + min (x - min x a.fine) _ ≤ x
  omega

/-- What a credit applies is what credited grows by (R88). -/
theorem credit_credited (a : Account) (x : Nat) : (a.credit x).1.credited = a.credited + (a.credit x).2 := rfl

/-- A credit leaves pending at or above inflight (R88). -/
theorem credit_inflight_le {a : Account} (h : a.inflight ≤ a.pending) (x : Nat) :
    a.inflight ≤ (a.credit x).1.pending := by
  show a.inflight ≤ a.pending - min _ (a.pending - a.inflight)
  omega

/-- A credit moves femtolitres out of fine and pending, and loses none (R88, R91). -/
theorem credit_balance {a : Account} (h : a.inflight ≤ a.pending) (x : Nat) :
    tuInFl * (a.credit x).1.pending + (a.credit x).1.fine + (a.credit x).2 = tuInFl * a.pending + a.fine := by
  show tuInFl * (a.pending - min ((x - min x a.fine + (tuInFl - 1)) / tuInFl) (a.pending - a.inflight)) +
      (a.fine - min x a.fine + min ((x - min x a.fine + (tuInFl - 1)) / tuInFl) (a.pending - a.inflight) * tuInFl -
        min (x - min x a.fine)
          (min ((x - min x a.fine + (tuInFl - 1)) / tuInFl) (a.pending - a.inflight) * tuInFl)) +
      (min x a.fine +
        min (x - min x a.fine)
          (min ((x - min x a.fine + (tuInFl - 1)) / tuInFl) (a.pending - a.inflight) * tuInFl)) =
    tuInFl * a.pending + a.fine
  have hn : min ((x - min x a.fine + (tuInFl - 1)) / tuInFl) (a.pending - a.inflight) ≤ a.pending := by omega
  generalize min ((x - min x a.fine + (tuInFl - 1)) / tuInFl) (a.pending - a.inflight) = n at hn ⊢
  have hsub : tuInFl * (a.pending - n) + n * tuInFl = tuInFl * a.pending := by
    rw [Nat.mul_comm n, ← Nat.mul_add, Nat.sub_add_cancel hn]
  omega

/-- A credit leaves fine below 1 tu (R88). -/
theorem credit_fine_lt {a : Account} (h : a.fine < tuInFl) (x : Nat) : (a.credit x).1.fine < tuInFl := by
  show a.fine - min x a.fine + min ((x - min x a.fine + (tuInFl - 1)) / tuInFl) (a.pending - a.inflight) * tuInFl -
      min (x - min x a.fine)
        (min ((x - min x a.fine + (tuInFl - 1)) / tuInFl) (a.pending - a.inflight) * tuInFl) < tuInFl
  have hle : min ((x - min x a.fine + (tuInFl - 1)) / tuInFl) (a.pending - a.inflight) ≤
      (x - min x a.fine + (tuInFl - 1)) / tuInFl := Nat.min_le_left _ _
  generalize min ((x - min x a.fine + (tuInFl - 1)) / tuInFl) (a.pending - a.inflight) = n at hle ⊢
  have hmul : n * tuInFl ≤ x - min x a.fine + (tuInFl - 1) :=
    (Nat.mul_le_mul_right _ hle).trans (Nat.div_mul_le_self _ _)
  have htu : 0 < tuInFl := by decide
  by_cases hx : x ≤ a.fine
  · have hn : n = 0 := by
      have h0 : (x - min x a.fine + (tuInFl - 1)) / tuInFl = 0 := Nat.div_eq_of_lt (by omega)
      omega
    subst hn
    omega
  · omega

/-- The committed figure and the flight after a completion (R106). -/
theorem complete_committed (a : Account) (c : Nat) : (a.complete c).committed = c ∧ (a.complete c).inflight = 0 := by
  unfold Account.complete Account.cut
  split <;> exact ⟨rfl, rfl⟩

/-! ### Ink states and releases (R101, R116, R124) -/

@[simp] theorem setInk_ink (bd : Binding) (i : InkState) : (bd.setInk i).ink = i := rfl
@[simp] theorem setInk_acct (bd : Binding) (i : InkState) : (bd.setInk i).acct = bd.acct := rfl
@[simp] theorem setInk_draw (bd : Binding) (i : InkState) : (bd.setInk i).draw = bd.draw := rfl
@[simp] theorem setInk_serial (bd : Binding) (i : InkState) : (bd.setInk i).serial = bd.serial := rfl
@[simp] theorem setInk_state (bd : Binding) (i : InkState) : (bd.setInk i).commit.state = bd.commit.state := rfl
@[simp] theorem setInk_release (bd : Binding) (i : InkState) : (bd.setInk i).commit.release = bd.commit.release := rfl

/-- The level seen is never more severe than before, nor than the ink state set (R101). -/
theorem setInk_levelSeen_le (bd : Binding) (i : InkState) :
    (bd.setInk i).commit.levelSeen.code ≤ bd.commit.levelSeen.code ∧ (bd.setInk i).commit.levelSeen.code ≤ i.code := by
  show (if i.code < bd.commit.levelSeen.code then i else bd.commit.levelSeen).code ≤ _ ∧
    (if i.code < bd.commit.levelSeen.code then i else bd.commit.levelSeen).code ≤ _
  split <;> omega

@[simp] theorem toReleased_acct (bd : Binding) (t : Thresholds) : (bd.toReleased t).acct = bd.acct.release := rfl
@[simp] theorem toReleased_serial (bd : Binding) (t : Thresholds) : (bd.toReleased t).serial = bd.serial := rfl
@[simp] theorem toReleased_state (bd : Binding) (t : Thresholds) : (bd.toReleased t).commit.state = bd.commit.state := rfl
@[simp] theorem toReleased_release (bd : Binding) (t : Thresholds) : (bd.toReleased t).commit.release = none := rfl

end Sys2Proof.Machine
end

