-- ==== Sys2Proof/Laws/Take.lean ====
section
/-! SUPPORT. The take of a request: what the command of its kind runs, and on what. -/

namespace Sys2Proof.Machine

variable {s : State} {k : ReqKind} {r : Request} {rest : List Request} {act : Request → State → State}

/-- Answering at the take is a reply on the dequeued state. -/
theorem dequeued_reply (s : State) (rest : List Request) (r : Request) (res : Result) (body : List Byte) :
    (s.dequeued rest).reply r res body = s.answered rest (r.answer res body) := rfl

theorem dequeued_bay (s : State) (rest : List Request) (b : Bay) : (s.dequeued rest).bay b = s.bay b := rfl

theorem dequeued_bayCfg (s : State) (rest : List Request) (b : Bay) : (s.dequeued rest).bayCfg b = s.bayCfg b := rfl

/-- In RUNNING, a request of a right length acts on the state without it (R172). -/
theorem take_taking (h : Taking s k r rest) (hl : k.lengthOk r.body.length = true) :
    s.take k act = act r (s.dequeued rest) := by
  obtain ⟨hd, hr, hk⟩ := h
  unfold State.take State.judgeTaken
  rw [hr]
  dsimp only
  rw [if_pos hk, if_neg (by simp [hd]), if_pos hl]
  rfl

/-- A request of a wrong length is refused (R172). -/
theorem take_length (h : Taking s k r rest) (hl : k.lengthOk r.body.length = false) :
    s.take k act = s.answered rest (r.answer .badArg []) := by
  obtain ⟨hd, hr, hk⟩ := h
  unfold State.take State.judgeTaken
  rw [hr]
  dsimp only
  rw [if_pos hk, if_neg (by simp [hd]), if_neg (by simp [hl])]
  rfl

/-- With an empty request queue nothing is taken (log 3). -/
theorem take_empty (h : s.requests = []) : s.take k act = s := by
  simp only [State.take, h]

/-- A bay number 0..11 names its bay (R2). -/
theorem bayOf_val (b : Bay) : bayOf? b.val = some b := by
  unfold bayOf?
  rw [dif_pos b.isLt]

/-- A number above 11 names none. -/
theorem bayOf_above {n : Nat} (h : 11 < n) : bayOf? n = none := by
  unfold bayOf?
  rw [dif_neg (by omega)]

/-- The first byte of a body that starts with a bay number. -/
theorem byteAt_bay {b : Bay} {tail : List Byte} (h : r.body = toBytes 1 b.val ++ tail) : r.byteAt 0 = b.val := by
  unfold Request.byteAt
  rw [h, field_front]
  exact Nat.mod_eq_of_lt (by omega)

/-- A body that starts with a bay number runs its action on that bay. -/
theorem withBay_bay {b : Bay} {tail : List Byte} (h : r.body = toBytes 1 b.val ++ tail) (f : Bay → State) (s : State) :
    s.withBay r f = f b := by
  unfold State.withBay
  rw [byteAt_bay h, bayOf_val]

/-- A body of the bay number alone. -/
theorem withBay_only {b : Bay} (h : r.body = toBytes 1 b.val) (f : Bay → State) (s : State) : s.withBay r f = f b :=
  withBay_bay (tail := []) (by rw [h, List.append_nil]) f s

/-- A body whose bay number is above 11 is refused (R172). -/
theorem withBay_above (h : 11 < r.byteAt 0) (f : Bay → State) (s : State) : s.withBay r f = s.reply r .badArg [] := by
  unfold State.withBay
  rw [bayOf_above h]

end Sys2Proof.Machine
end

