-- ==== Sys2Proof/WellFormed.lean ====
section
/-! DEFINITION. Which terms of `Instr` are commands of the table. Bay and lane numbers and readings are in range by
their types; two operands need a check. -/

namespace Sys2Proof

/-- The host half of a REQUEST_FRAME is neither empty nor a link reset (R170): at least one byte was clocked, and the
length byte is neither 0 nor 0xFF. -/
def requestHalfOk : List Byte → Bool
  | [] => false
  | l :: _ => l != 0 && l != 0xFF

/-- A reply on a lane has at least one byte: with none nothing completes on the lane (R26). -/
def tagBytesOk (bytes : List Byte) : Bool := !bytes.isEmpty

/-- Well-formed commands. -/
def Instr.wellFormed : Instr → Bool
  | .requestFrame bytes => requestHalfOk bytes
  | .tagReply _ bytes => tagBytesOk bytes
  | .frameStart => true
  | .itemDelivery _ => true
  | .emptyFrame => true
  | .linkReset => true
  | .unknownKind => true
  | .statusGet => true
  | .bayGet => true
  | .meterGet => true
  | .tableGet => true
  | .tally => true
  | .purgeReport => true
  | .returnReport => true
  | .dropsSet => true
  | .levelsSet => true
  | .senseSet => true
  | .commitSet => true
  | .slotSet => true
  | .supplySet => true
  | .routeSet => true
  | .maskSet => true
  | .policySet => true
  | .keyRevoke => true
  | .seal => true
  | .bayRecheck => true
  | .bayRelease => true
  | .bayDisable => true
  | .bayEnable => true
  | .commitRetry => true
  | .surveyRun => true
  | .storeSave => true
  | .restart => true
  | .doze => true
  | .noticeDone => true
  | .rawPresenceChange _ _ => true
  | .presenceWindowExpiry _ => true
  | .replyTimerExpiry _ => true
  | .holdLimitExpiry _ => true
  | .surveyTimerExpiry _ => true
  | .supplyTimerExpiry _ => true
  | .conversionComplete _ => true
  | .storeWriteComplete _ => true
  | .pfailAssert => true
  | .pfailDeassert => true
  | .powerOn => true
  | .resetPin => true
  | .loadCompletion _ _ _ _ => true
  | .laneCommandEnd _ => true

end Sys2Proof
end

