-- ==== Sys2Proof/Tests/Slice0.lean ====
section
/-! SUPPORT. Tests: ill-formed terms refused, the checks and worked cases of the spec, and for every statement with
hypotheses states and operands that meet them. -/

namespace Sys2Proof.Tests

set_option Elab.async false

open Sys2Proof Sys2Proof.Machine

/-! ### Small states -/

/-- The state a command leaves. -/
def after (c : Instr) (s : State) : State :=
  match exec c s with
  | .next t => t
  | .fault _ => State.reset
  | .refused _ => State.reset

/-- A running part: every bay VACANT, every key slot holding the key 5. -/
def on : State :=
  { State.reset with
    device := .running, masterKeys := Vector.replicate 8 (some 5)
    bays := Vector.replicate 12 { BayRec.cold with phase := .vacant } }

/-- A cartridge of 50,000 tu with 30,000 committed and 12 pending. -/
def cart : Binding :=
  { serial := 0x11, product := 0x0203, capacity := 50000, keyIndex := 0, evidence := []
    acct :=
      { committed := 30000, pending := 12, inflight := 0, charged := 0, carried := 12, fine := 0, credited := 0
        ceiling := false }
    draw := DrawFigures.zero, commit := { state := .idle, levelSeen := .normal, release := none }, ink := .normal
    reinsert := false }

/-- That cartridge's table entry. -/
def entry : Entry :=
  { serial := 0x11, product := 0x0203, capacity := 50000, high := 30000, owed := 0, unsure := none, lastSensed := none
    refilled := none, cloneSeen := false, bay := some 0 }

/-- The running part with a phase in bay 0. -/
def inBay0 (p : Phase) : State := on.modBay 0 fun r => { r with phase := p }

/-- The running part with a cartridge bound in bay 0, and its line allowing. -/
def bound (bd : Binding) : State :=
  { (on.modBay 0 fun r => { r with phase := .active bd, line := .allow }) with table := [entry] }

/-- The cartridge with another commit state. -/
def cartIn (c : CommitState) : Binding := { cart with commit := { cart.commit with state := c } }

/-- The cartridge with all its pending ink in flight. -/
def flying (c : CommitState) : Binding := { cartIn c with acct := { cart.acct with inflight := 12 } }

/-- A request at the head of the queue. -/
def req (k : ReqKind) (body : List Byte) : Request := { ticket := 0x21, kind := k.code, body := body }

/-- A state in which that request waits alone. -/
def asks (s : State) (k : ReqKind) (body : List Byte) : State := { s with requests := [req k body] }

/-- The result and body of the last reply after a command. -/
def answerOf (c : Instr) (s : State) : Option (Result × List Byte) :=
  (after c s).replies.getLast?.map fun r => (r.result, r.body)

/-- An operation on lane 0, position 0. -/
def runs (op : OpKind) (st : TagStep) (n : Nat) (timer : Option Nat) : Running :=
  { position := 0, op := op, step := st, attempt := n, abandoned := false, opNonce := some 9, timer := timer
    nonce := some 9, record := none, badRecord := false, command := [] }

/-- A state with an operation on lane 0. -/
def onLane0 (s : State) (x : Running) : State := s.modLane 0 fun l => { l with running := some x }

/-- The record of a READ_RECORD reply. -/
def record : TagRecord :=
  { serial := 0x11, product := 0x0203, capacity := 50000, counter := 30000, keyIndex := 0, fillWeek := 2401 }

/-! ### Well-formed commands -/

theorem test_wellFormed_refuses_empty_request : (Instr.requestFrame []).wellFormed = false := by decide
theorem test_wellFormed_refuses_empty_half : (Instr.requestFrame [0, 1]).wellFormed = false := by decide
theorem test_wellFormed_refuses_reset_half : (Instr.requestFrame [0xFF]).wellFormed = false := by decide
theorem test_wellFormed_refuses_empty_reply : (Instr.tagReply 0 []).wellFormed = false := by decide
theorem test_wellFormed_takes : (Instr.requestFrame [2, 1, 1]).wellFormed && (Instr.tagReply 2 [0]).wellFormed := by
  decide
theorem test_no_word_spells_a_command : decodeTableWord 8 0 = none ∧ State.withFetchWord on 8 0 = on := ⟨rfl, rfl⟩

/-! ### The checks (00_scope.md 1.7) and the worked cases of the spec -/

theorem test_crc16_of_digits : crc16 [0x31, 0x32, 0x33, 0x34, 0x35, 0x36, 0x37, 0x38, 0x39] = 0x29B1 := by
  decide +kernel
theorem test_crc8_of_digits : crc8 [0x31, 0x32, 0x33, 0x34, 0x35, 0x36, 0x37, 0x38, 0x39] = 0xF4 := by decide +kernel
theorem test_bytes_most_significant_first : toBytes 3 50000 = [0, 0xC3, 0x50] ∧ ofBytes [0, 0xC3, 0x50] = 50000 := by
  decide +kernel

/-- 8.4, cases A to F. -/
theorem test_sensed_levels :
    sensedLevel { Calib.factory with empty := 120, full := 860 } 520 = 541 ∧
    sensedLevel { Calib.factory with empty := 100, full := 116 } 101 = 63 ∧
    sensedLevel { Calib.factory with empty := 120, full := 860 } 100 = 0 ∧
    sensedLevel { Calib.factory with empty := 120, full := 860 } 900 = 1000 ∧
    sensedLevel { Calib.factory with empty := 900, full := 200 } 480 = 600 ∧
    sensedLevel { Calib.factory with empty := 900, full := 200 } 950 = 0 := by decide +kernel

/-- 7.2: capacity 50,000, low 100, out 20, at the bounds. -/
theorem test_ink_bounds :
    inkOf { low := 100, out := 20 } 50000 5001 = .normal ∧ inkOf { low := 100, out := 20 } 50000 5000 = .low ∧
    inkOf { low := 100, out := 20 } 50000 1001 = .low ∧ inkOf { low := 100, out := 20 } 50000 1000 = .out ∧
    inkOf { low := 100, out := 0 } 50000 0 = .out := by decide +kernel

/-- 5.8: remaining and overdraw. -/
theorem test_remaining_overdraw :
    ({ cart with acct := { cart.acct with pending := 2000 } } : Binding).remaining = 18000 ∧
    ({ cart with acct := { cart.acct with committed := 49990, pending := 25 } } : Binding).overdraw = 15 := by decide

/-- 5.7, the limit case: 3 * 10^9 applied of 5 * 10^9, the rest discarded. -/
theorem test_credit_limit :
    let a : Account := { cart.acct with pending := 0, fine := 3 * 10 ^ 9 }
    (a.credit (5 * 10 ^ 9)).2 = 3 * 10 ^ 9 ∧ (a.credit (5 * 10 ^ 9)).1.fine = 0 := by decide +kernel

/-- 5.5: 250 ms at 40 nL/ms is exactly 1 tu. -/
theorem test_purge_of_one_tu : purgeContribution 250 40 = 10 ^ 10 ∧ purgeContribution 0 40 = 40 * 10 ^ 6 := by
  decide +kernel

/-- The carry at the headroom and one tu beyond it (R85). -/
theorem test_ceiling_bounds :
    let a : Account := { cart.acct with committed := 16777200, pending := 5 }
    (a.charge (10 * 10 ^ 10)).pending = 15 ∧ (a.charge (10 * 10 ^ 10)).ceiling = false ∧
    (a.charge (11 * 10 ^ 10)).pending = 15 ∧ (a.charge (11 * 10 ^ 10)).ceiling = true ∧
    ((a.charge (11 * 10 ^ 10)).charge (10 ^ 10)).pending = 15 := by decide +kernel

/-! ### Steps, start and frames -/

/-- O2: an empty queue, with a line, a window and a survey timer that count. -/
theorem test_tick_counts :
    let s := on.modBay 1 fun r =>
      { r with line := .armed 1999, filter := { r.filter with window := some { level := .seated, ms := 49 } } }
    s.pending = [] ∧ (match step s with
      | .next t => (t.bay 1).line == .armed 2000 && t.pending.contains (.holdLimitExpiry 1) &&
          t.pending.contains (.presenceWindowExpiry 1)
      | .fault _ => false
      | .refused _ => false) = true := by decide +kernel

/-- O5: the state after reset is one the load starts from. -/
theorem test_load_premises :
    State.reset.device = .starting ∧ QuietUnlessRunning State.reset ∧ State.reset.writer = Writer.cold ∧
      State.reset.save = .none := by
  refine ⟨rfl, ⟨fun _ => ⟨?_, ?_⟩, fun _ => rfl⟩, rfl, rfl⟩
  · intro b
    revert b
    decide +kernel
  · intro l
    revert l
    decide +kernel

theorem test_load_starts :
    let t := after (.loadCompletion true false true false) State.reset
    t.device = .running ∧ (t.bay 11).phase = .vacant ∧ t.policy = Policy.factory ∧
      t.writer.writing = some (.settings Settings.factory) ∧ t.latchOf deviceSite Kind.storeFault.code = some 0 ∧
      t.converter = some { channel := 12, discard := false } := by decide +kernel

theorem test_load_fails :
    let t := after (.loadCompletion false false false false) State.reset
    t.device = .faulted ∧ t.policy.isSealed = true ∧ (t.bay 0).line = .inhibit := by decide +kernel

/-- O6: an idle frame, a reply, a notice record. -/
theorem test_frames_built :
    (after .frameStart on).frame = some { status := .notReady, item := .idle, toDeliver := true } ∧
    (after .frameStart { on with replies := [(req .doze []).answer .ok []] }).frame =
      some { status := .notReady, item := .reply ((req .doze []).answer .ok []), toDeliver := true } ∧
    (after .frameStart (on.latch 3 .rejected)).frame =
      some { status := .notReady, item := .notice 1 [{ site := 3, kind := 3 }], toDeliver := true } := by decide +kernel

/-- O6: an idle frame of 5 bytes, and 0x00 beyond its CRC-16. -/
theorem test_frame_sent :
    let f : Frame := { status := .taken, item := .idle, toDeliver := true }
    f.sent 7 = [0, 0, 0] ++ toBytes 2 (crc16 [0, 0]).toNat ++ [0, 0] ∧ f.sent 2 = [0, 0] := by decide +kernel

/-- O7: a DOZE reply of 3 bytes is delivered from 8 bytes on. -/
theorem test_delivery_bounds :
    let r := (req .doze []).answer .ok []
    let s : State := { on with replies := [r], frame := some { status := .taken, item := .reply r, toDeliver := true } }
    3 + (Item.reply r).bytes.length + 2 = 8 ∧ exec (.itemDelivery 7) s = .next s ∧
      (after (.itemDelivery 8) s).replies = [] ∧ (after (.itemDelivery 8) s).dozing = true := by
  refine ⟨by decide +kernel, rfl, by decide +kernel, by decide +kernel⟩

theorem test_restart_delivery_starts :
    let r := (req .restart []).answer .ok []
    let s : State := { on with replies := [r], frame := some { status := .taken, item := .reply r, toDeliver := true } }
    (after (.itemDelivery 8) s).device = .starting := by decide +kernel

theorem test_notice_delivery :
    let s := (on.latch 3 .rejected).frameStart
    (after (.itemDelivery 64) s).service[1] = some [{ site := 3, kind := 3 }] ∧
      (after (.itemDelivery 64) s).latchOf 3 3 = none := by decide +kernel

/-- O8: a link reset with a level in service and a queued request, and one that removes a RESTART reply. -/
theorem test_link_reset :
    let s : State := { asks on .doze [] with service := put on.service 1 (some [{ site := 3, kind := 3 }]) }
    s.device ≠ .starting ∧ (∀ r ∈ s.replies, ¬(r.kind = 0x52 ∧ (r.result = .ok ∨ r.result = .partially))) ∧
      (after .linkReset s).latchOf 3 3 = some 1 ∧ (after .linkReset s).service[1] = none ∧
      (after .linkReset s).requests = [] ∧
      (after .linkReset { s with replies := [(req .restart []).answer .ok []] }).device = .starting := by
  refine ⟨by decide, by simp [asks, on, State.reset], ?_⟩
  decide +kernel

/-- O8: a release, a run and a waiting RESTART go on without their reservations; of two service copies the lower level
counts. -/
theorem test_link_reset_long :
    let run : SurveyRun :=
      { listed := Vector.replicate 12 true, passesLeft := 1, passesRun := 1, members := Vector.replicate 12 none
        skipped := Vector.replicate 12 false, results := Vector.replicate 12 none, ticket := 7, reserved := true }
    let rel := fun kept => { cart with commit := { cart.commit with release := some { ticket := 1, reserved := kept } } }
    let s : State := { bound (rel true) with
      run := some run, waiters := [{ isRestart := true, ticket := 4, reserved := true }]
      service := put (put on.service 2 (some [{ site := 3, kind := 3 }])) 1 (some [{ site := 3, kind := 3 }]) }
    let t := after .linkReset s
    (t.bay 0).phase = .active (rel false) ∧ t.run = some { run with reserved := false } ∧
    t.waiters = [{ isRestart := true, ticket := 4, reserved := false }] ∧ t.latchOf 3 3 = some 1 := by decide +kernel

/-- O9: lengths 1, 61 and 62, a short frame, a wrong check, and a full queue. -/
theorem test_request_frame_bounds :
    let frame := fun body : List Byte =>
      let covered := [BitVec.ofNat 8 (body.length + 2), 0x21, 0x53] ++ body
      covered ++ toBytes 2 (crc16 covered).toNat
    (after (.requestFrame (frame [])) on).requests = [req .doze []] ∧
    (after (.requestFrame (frame (List.replicate 59 7))) on).status = .taken ∧
    (after (.requestFrame (frame (List.replicate 60 7))) on).status = .badLength ∧
    (after (.requestFrame [1, 0x21, 0, 0]) on).status = .badLength ∧
    (after (.requestFrame ((frame []).take 4)) on).status = .badLength ∧
    (after (.requestFrame [2, 0x21, 0x53, 0, 0]) on).status = .badCheck ∧
    (after (.requestFrame (frame [])) { on with requests := List.replicate 4 (req .doze []) }).status = .full ∧
    (after (.requestFrame (frame [])) State.reset).status = .notReady := by decide +kernel

theorem test_empty_frame : (after .emptyFrame on).status = .none ∧ (after .emptyFrame State.reset).status = .notReady := by
  decide +kernel

/-- O11: an unknown kind, a FAULTED part, a wrong length, a bay number above 11. -/
theorem test_take_order :
    let s : State := { on with requests := [{ ticket := 0x21, kind := 0x60, body := [] }] }
    (∀ k ∈ ReqKind.all, (0x60 : Byte) ≠ k.code) ∧ answerOf .unknownKind s = some (.unknownKind, []) ∧
    answerOf .tally (asks { on with device := .faulted } .tally [9]) = some (.faulted, []) ∧
    answerOf .bayGet (asks on .bayGet []) = some (.badArg, []) ∧
    (Taking (asks on .bayGet [12]) .bayGet (req .bayGet [12]) [] ∧ answerOf .bayGet (asks on .bayGet [12]) = some (.badArg, [])) ∧
    (answerOf .bayGet (asks on .bayGet [11])).map (·.1) = some .ok := by decide +kernel

/-! ### Queries -/

/-- O12: each query, and the pages and positions at the bounds. -/
theorem test_queries :
    Taking (asks on .statusGet []) .statusGet (req .statusGet []) [] ∧
    (answerOf .statusGet (asks on .statusGet [])).map (·.1) = some .ok ∧
    answerOf .bayGet (asks (bound cart) .bayGet [0]) =
      some (.ok, [0, 4, 0, 0, 0xFF, 0xFF, 0xFF, 0, 0, 0xFF, 0, 0, 0, 0, 0, 0, 0, 0x11, 2, 3, 0, 0xC3, 0x50, 0, 0, 0, 1]) ∧
    (answerOf .meterGet (asks (bound cart) .meterGet [0, 1])).map (·.2.length) = some 42 ∧
    answerOf .meterGet (asks (bound cart) .meterGet [0, 2]) = some (.badArg, []) ∧
    answerOf .tableGet (asks on .tableGet [31]) = some (.ok, [31, 0, 0]) ∧
    answerOf .tableGet (asks on .tableGet [32]) = some (.badArg, []) := by decide +kernel

theorem test_table_body :
    (answerOf .tableGet (asks (bound cart) .tableGet [0])).map (·.2) =
      some ([0, 1, 0x21] ++ [0, 0, 0, 0, 0, 0, 0, 0x11] ++ [2, 3] ++ [0, 0xC3, 0x50] ++ [0, 0x75, 0x30] ++ [0, 0, 0] ++
        [0, 0, 0] ++ [0, 0, 0] ++ [0xFF, 0xFF] ++ [0xFF] ++ [0]) := by decide +kernel

/-- O12: the meter of a REJECTED bay and of one with overdraw, and an idle lane in the status. -/
theorem test_meter_body :
    let drawn := bound { cart with acct := { cart.acct with committed := 50000 } }
    ((inBay0 (.rejected .noReply { DrawFigures.zero with drawn := 258 })).meterBody 0 1).drop 28 =
      [1, 2] ++ List.replicate 12 0 ∧
    bytesAt (drawn.meterBody 0 0) 18 12 = [0, 0xC3, 0x50] ++ [0, 0, 0] ++ [0, 0, 0] ++ [0, 0, 12] ∧
    bytesAt on.statusBody 7 5 = [0xFF, 0xFF, 3, 0xFF, 0xFF] ∧ bytesAt on.statusBody 47 1 = [0] := by decide +kernel

/-! ### Metering -/

/-- O13: two entries and a swath end, bays 0 and 15. -/
theorem test_tally_body :
    TallyBody.parse [0x82, 0x05, 0, 0, 1, 0xFC, 0xFF, 0xFF, 0xFF] =
      some
        { swathEnd := true
          entries :=
            [{ bay := 0, dropClass := 1, count := 1 }, { bay := 15, dropClass := 3, count := 16777215 }] } ∧
    TallyBody.parse [0x0F] = none ∧ TallyBody.parse [1] = none := by decide +kernel

/-- O18: a TALLY of 2,000,000 class-3 drops of 16,000 fL with scale 1024 carries 3 tu; a TALLY with a bad count. -/
theorem test_tally :
    let s := asks (bound cart) .tally [1, 0x0C, 0x1E, 0x84, 0x80]
    Taking s .tally (req .tally [1, 0x0C, 0x1E, 0x84, 0x80]) [] ∧ answerOf .tally s = some (.ok, [0, 0]) ∧
    ((after .tally s).bay 0).phase.binding?.map (·.acct.pending) = some 15 ∧
    ((after .tally s).bay 0).phase.binding?.map (·.acct.fine) = some (2 * 10 ^ 9) ∧
    answerOf .tally (asks on .tally [1, 0xC0, 0, 0, 0]) = some (.partially, [1, 0]) ∧
    answerOf .tally (asks on .tally [1, 0x00, 0, 0, 0]) = some (.ok, [0, 1]) ∧
    answerOf .tally (asks on .tally [2, 0, 0, 0, 0]) = some (.badArg, []) := by decide +kernel

/-- O17, O16: a swath end with an armed line and a staged pair; a REJECTED bay under ALLOW. -/
theorem test_swath_end :
    let s := (bound { cart with draw := { cart.draw with swath := 70 } }).modBay 0 fun r =>
      { r with line := .armed 3, staged := some { low := 900, out := 0 } }
    (s.swathEnd.bay 0).line = .inhibit ∧ (s.swathEnd.bay 0).thresholds = { low := 900, out := 0 } ∧
    (s.swathEnd.bay 0).phase.draw?.map (·.lastSwath) = some 70 ∧
    (({ inBay0 (.rejected .wrongInk DrawFigures.zero) with
        policy := { Policy.factory with rejectMode := .allow } }.tallyEntry
          { bay := 0, dropClass := 1, count := 5 }).bay 0).phase.draw?.map (fun d : DrawFigures => d.drawn) = some 15000 := by decide +kernel

/-- O19: the three reports answer a next state. -/
theorem test_metering_premises :
    ∃ t, exec .tally (asks (bound cart) .tally [1, 0x0C, 0x1E, 0x84, 0x80]) = .next t := ⟨_, rfl⟩

/-- O20: a purge of an ACTIVE, a REJECTED and a VACANT bay, and a bay number of 12. -/
theorem test_purge :
    let cfg := fun s : State => s.modBayCfg 0 fun c => { c with purgeRate := 40 }
    let s := asks (cfg (bound cart)) .purgeReport [0, 0, 250]
    Taking s .purgeReport (req .purgeReport [0, 0, 250]) [] ∧ answerOf .purgeReport s = some (.ok, [0]) ∧
    ((after .purgeReport s).bay 0).phase.binding?.map (·.acct.pending) = some 13 ∧
    answerOf .purgeReport (asks ({ inBay0 (.rejected .noReply DrawFigures.zero) with
      policy := { Policy.factory with rejectMode := .allow } }) .purgeReport [0, 0, 1]) = some (.ok, [1]) ∧
    answerOf .purgeReport (asks on .purgeReport [0, 0, 1]) = some (.ok, [2]) ∧
    answerOf .purgeReport (asks on .purgeReport [12, 0, 1]) = some (.badArg, []) := by decide +kernel

/-- O21: a return into an ACTIVE bay borrows 1 tu, into a VACANT one is refused. -/
theorem test_return :
    let s := asks (bound cart) .returnReport [0, 0, 0, 5]
    Taking s .returnReport (req .returnReport [0, 0, 0, 5]) [] ∧
    ((after .returnReport s).bay 0).phase.binding?.map (·.acct.pending) = some 11 ∧
    ((after .returnReport s).bay 0).phase.binding?.map (·.acct.fine) = some (10 ^ 10 - 5 * 10 ^ 6) ∧
    answerOf .returnReport s = some (.ok, toBytes 7 5000000 ++ toBytes 7 0) ∧
    answerOf .returnReport (asks on .returnReport [0, 0, 0, 5]) = some (.bayState, []) ∧
    answerOf .returnReport (asks on .returnReport [12, 0, 0, 5]) = some (.badArg, []) := by decide +kernel

/-- O21: a credit that empties a queued bay withdraws its request; with a release in progress the bay becomes RELEASED. -/
theorem test_return_withdraws :
    let queued := fun rel : Option Release =>
      { cart with
        acct := { cart.acct with pending := 1, carried := 1 }
        commit := { state := .queued, levelSeen := .normal, release := rel } }
    let t := fun rel =>
      after .returnReport (asks ((bound (queued rel)).modBay 0 fun r => { r with slot := some .commit }) .returnReport
        [0, 0, 0x27, 0x10])
    ((t none).bay 0).slot = none ∧ ((t none).bay 0).phase.binding?.map (·.commit.state) = some .idle ∧
    (((t (some { ticket := 1, reserved := true })).bay 0).phase.code = 6) ∧
    (t (some { ticket := 1, reserved := true })).replies.map (·.kind) = [0x41, 0x12] := by decide +kernel

/-! ### Settings and policy -/

/-- O23: scale and purge rate clamped at both ends. -/
theorem test_drops_set :
    answerOf .dropsSet (asks on .dropsSet [11, 0, 0, 0, 1, 0, 2, 0, 3, 0, 0, 0xFF, 0xFF]) =
      some (.ok, [0, 0, 0, 1, 0, 2, 0, 3, 3, 0, 0x0F, 0xFF]) ∧
    answerOf .dropsSet (asks on .dropsSet [12, 0, 0, 0, 1, 0, 2, 0, 3, 0, 0, 0xFF, 0xFF]) = some (.badArg, []) ∧
    (after .dropsSet (asks on .dropsSet [11, 0, 0, 0, 1, 0, 2, 0, 3, 5, 1, 0, 0])).writer.writing ≠ none := by
  decide +kernel

/-- O24: a pair for an ACTIVE bay is staged; for a VACANT one it is active at once; 1001 is clamped. -/
theorem test_levels_set :
    answerOf .levelsSet (asks (bound cart) .levelsSet [0, 3, 0xE9, 3, 0xE9]) =
      some (.ok, [0, 100, 0, 0, 3, 0xE8, 3, 0xE8, 1]) ∧
    answerOf .levelsSet (asks on .levelsSet [0, 0, 50, 0, 60]) = some (.ok, [0, 50, 0, 50, 0xFF, 0xFF, 0xFF, 0xFF, 0]) := by
  decide +kernel

theorem test_levels_set_released :
    let released := { cart with commit := { cart.commit with levelSeen := .out } }
    let after' := fun body =>
      ((after .levelsSet (asks (inBay0 (.released released)) .levelsSet body)).bay 0).phase.binding?.map fun bd =>
        (bd.ink, bd.commit.levelSeen)
    after' [0, 3, 0xE8, 3, 0xE8] = some (.out, .out) ∧ after' [0, 3, 0xE8, 0, 0] = some (.low, .low) := by decide +kernel

/-- O25: clamps, and a conversion of the channel that is running. -/
theorem test_sense_set :
    let s : State := { asks (bound cart) .senseSet [0, 0, 120, 3, 0x5C, 0, 0, 0, 0, 0] with
      converter := some { channel := 0, discard := false } }
    answerOf .senseSet s = some (.ok, [0, 120, 3, 0x5C, 0, 20, 1, 0, 100, 1]) ∧
    (after .senseSet s).converter = some { channel := 0, discard := true } ∧ ((after .senseSet s).bay 0).wanted = true ∧
    answerOf .senseSet (asks on .senseSet [0, 8, 0, 8, 0, 3, 0, 20, 0x40, 0]) =
      some (.ok, [3, 0xFF, 3, 0xFF, 1, 0xF4, 15, 0x27, 0x10, 0]) := by decide +kernel

/-- O26: a step of 12 finds 12 tu free and queues a COMMIT, which the lane takes at once; 13 does not; 0 and 65 clamp. -/
theorem test_commit_set :
    ((after .commitSet (asks (bound cart) .commitSet [0, 12])).lane 0).running.map (·.op) = some .commit ∧
    ((after .commitSet (asks (bound cart) .commitSet [0, 13])).lane 0).running = none ∧
    answerOf .commitSet (asks on .commitSet [0, 0]) = some (.ok, [1]) ∧
    answerOf .commitSet (asks on .commitSet [0, 65]) = some (.ok, [64]) := by decide +kernel

/-- O27: the four plain settings, at their bounds. -/
theorem test_plain_settings :
    ((after .slotSet (asks on .slotSet [11, 2, 3])).bayCfg 11).slotCode = 0x0203 ∧
    answerOf .supplySet (asks on .supplySet [3, 0xE0]) = some (.ok, [3, 0xDF]) ∧
    (after .routeSet (asks on .routeSet [12, 3])).settings.routing[12] = 3 ∧
    answerOf .routeSet (asks on .routeSet [13, 0]) = some (.badArg, []) ∧
    answerOf .routeSet (asks on .routeSet [0, 4]) = some (.badArg, []) ∧
    answerOf .maskSet (asks on .maskSet [0xF5, 0x1F]) = some (.ok, [5, 15]) := by decide +kernel

/-- O28: an IDLE writer with TABLE, POLICY or nothing else dirty, and one that writes. -/
theorem test_writer_triggers :
    on.device ≠ .faulted ∧ on.settingsChanged.writer.writing = some (.settings Settings.factory) ∧
    (on.markDirty .policy).settingsChanged.writer.writing = some (.policy Policy.factory) ∧
    (on.markDirty .table).settingsChanged.writer.writing = some (.table []) ∧
    on.settingsChanged.settingsChanged.writer.dirty.settings = true := by decide +kernel

/-- O29: modes at the ends of their lists, and a sealed policy. -/
theorem test_policy_set :
    let sealed : State := { on with policy := { Policy.factory with isSealed := true } }
    answerOf .policySet (asks on .policySet [0x0F, 1, 2, 2]) = some (.ok, [0x2A, 0x0F]) ∧
    answerOf .policySet (asks on .policySet [0x0F, 2, 0, 0]) = some (.badArg, []) ∧
    answerOf .policySet (asks on .policySet [0x0F, 0, 3, 0]) = some (.badArg, []) ∧
    answerOf .policySet (asks sealed .policySet [0x0F, 0, 0, 3]) = some (.badArg, []) ∧
    answerOf .policySet (asks sealed .policySet [0x0F, 0, 0, 0]) = some (.isSealed, []) := by decide +kernel

/-- O30, O31: seal, seal again, revoke sealed and unsealed, index 7 and 8. -/
theorem test_seal_and_revoke :
    let open3 : State := { on with policy := { Policy.factory with allowed := 0x07 } }
    let sealed := after .seal (asks open3 .seal [])
    sealed.oneWay = { sealMark := true, revoked := 0xF8 } ∧ answerOf .seal (asks sealed .seal []) = some (.isSealed, []) ∧
    (after .keyRevoke (asks sealed .keyRevoke [2])).oneWay.revoked = 0xFC ∧
    answerOf .keyRevoke (asks open3 .keyRevoke [2]) = some (.ok, [3]) ∧
    (after .keyRevoke (asks open3 .keyRevoke [2])).oneWay.revoked = 0 ∧
    (after .keyRevoke (asks open3 .keyRevoke [7])).writer = open3.writer ∧
    answerOf .keyRevoke (asks on .keyRevoke [8]) = some (.badArg, []) := by decide +kernel

/-- O30: a revocation with TABLE dirty writes TABLE first; without, POLICY. -/
theorem test_policy_flushed :
    let open3 : State := { on with policy := { Policy.factory with allowed := 0x07 } }
    (after .keyRevoke (asks (open3.markDirty .table) .keyRevoke [2])).writer.writing = some (.table []) ∧
    (after .keyRevoke (asks open3 .keyRevoke [2])).writer.writing = some (.policy { Policy.factory with allowed := 3 }) := by
  decide +kernel

theorem test_seal_step : ∃ t, step { asks on .seal [] with pending := [.seal] } = .next t ∧ t.policy.isSealed = true :=
  ⟨_, rfl, by decide +kernel⟩

/-! ### Bays and commits -/

/-- O32: a recheck of a bound bay with a flight, and of a VACANT one. -/
theorem test_recheck :
    let t := after .bayRecheck (asks (bound (flying (.uncertain 30012))) .bayRecheck [0])
    (t.bay 0).phase = .identifying ∧ (t.lane 0).running.map (·.op) = some .identify ∧
    t.table = [{ entry with owed := 12, unsure := some { target := 30012, amount := 12 }, bay := none }] ∧
    answerOf .bayRecheck (asks on .bayRecheck [0]) = some (.bayState, []) := by decide +kernel

/-- O33: a release in each commit state. -/
theorem test_release :
    let empty : Binding := { cart with acct := { cart.acct with pending := 0, carried := 0 } }
    let releasing : Binding := { cart with commit := { cart.commit with release := some { ticket := 1, reserved := true } } }
    answerOf .bayRelease (asks (bound empty) .bayRelease [0]) = some (.ok, []) ∧
    ((after .bayRelease (asks (bound cart) .bayRelease [0])).lane 0).running.map (·.op) = some .final ∧
    ((after .bayRelease (asks (bound (flying (.inFlight 30012 false))) .bayRelease [0])).replies = []) ∧
    answerOf .bayRelease (asks (bound (cartIn .stopped)) .bayRelease [0]) = some (.commitUncertain, []) ∧
    answerOf .bayRelease (asks (bound (flying (.uncertain 30012))) .bayRelease [0]) = some (.commitUncertain, []) ∧
    answerOf .bayRelease (asks (bound releasing) .bayRelease [0]) = some (.busy, []) ∧
    answerOf .bayRelease (asks on .bayRelease [0]) = some (.bayState, []) := by decide +kernel

theorem test_release_queued_and_reconciling :
    ((after .bayRelease (asks (onLane0 (bound (cartIn .queued)) { runs .commit .challenge 1 none with position := 1 })
      .bayRelease [0])).bay 0).slot = some .final ∧
    ((after .bayRelease (asks (bound (flying (.reconciling 30012 false))) .bayRelease [0])).bay 0).phase.binding?.map
      (·.commit.release) = some (some { ticket := 0x21, reserved := true }) := by decide +kernel

/-- O34: disable of a bound bay, and of one OFF; enable of one OFF, and of one VACANT. -/
theorem test_disable_enable :
    let t := after .bayDisable (asks (bound cart) .bayDisable [0])
    (t.bay 0).phase = .off ∧ (t.bayCfg 0).disabled = true ∧ t.table = [{ entry with owed := 12, bay := none }] ∧
    answerOf .bayDisable (asks (inBay0 .off) .bayDisable [0]) = some (.ok, []) ∧
    ((after .bayEnable (asks (inBay0 .off) .bayEnable [0])).bay 0).phase = .vacant ∧
    answerOf .bayEnable (asks on .bayEnable [0]) = some (.bayState, []) := by decide +kernel

/-- O34: a disable abandons the operation and answers the release. -/
theorem test_disable_ends :
    let bd := { flying (.inFlight 30012 true) with
      commit := { state := .inFlight 30012 true, levelSeen := .normal, release := some { ticket := 1, reserved := true } } }
    let t := after .bayDisable (asks (onLane0 (bound bd) (runs .final .challenge 1 (some 3))) .bayDisable [0])
    (t.lane 0).running.map (·.abandoned) = some true ∧ t.replies.map (·.result) = [.bayState, .ok] ∧
    t.table = [{ entry with owed := 12, unsure := some { target := 30012, amount := 12 }, bay := none }] := by decide +kernel

/-- O35: a retry in UNCERTAIN, and in IDLE. -/
theorem test_retry :
    ((after .commitRetry (asks (bound (flying (.uncertain 30012))) .commitRetry [0])).lane 0).running.map (·.op) =
      some .reconcile ∧
    answerOf .commitRetry (asks (bound cart) .commitRetry [0]) = some (.bayState, []) := by decide +kernel

/-! ### System requests -/

/-- A bay with a valid calibration. -/
def surveyed : State :=
  (bound cart).modBayCfg 0 fun c => { c with calib := { c.calib with empty := 120, full := 860 } }

/-- O36: a run with a member, one with none, and a second one. -/
theorem test_survey_run :
    let t := after .surveyRun (asks surveyed .surveyRun [0, 1, 2])
    surveyed.surveyable 0 = true ∧ (surveyed.run = none) ∧ t.run.map (·.passesLeft) = some 1 ∧
    t.converter = some { channel := 0, discard := false } ∧
    answerOf .surveyRun (asks t .surveyRun [0, 1, 2]) = some (.busy, []) ∧
    answerOf .surveyRun (asks on .surveyRun [0xF0, 3, 0]) = some (.ok, [1, 0, 3] ++ List.replicate 48 0xFF) := by
  decide +kernel

/-- O36: a run of two passes with its member taken, the last pass's end, a removal, and a recheck. -/
theorem test_survey_run_goes_on :
    let s := after .surveyRun (asks surveyed .surveyRun [0, 1, 2])
    let next := after (.conversionComplete 520) s
    let done := after (.conversionComplete 520) next
    let gone := after (.presenceWindowExpiry 0) (s.modBay 0 fun r =>
      { r with filter := { r.filter with window := some { level := .absent, ms := 5 } } })
    s.run.map (·.members[(0 : Bay)]) = some (some true) ∧ next.run.map (·.passesRun) = some 2 ∧ done.run = none ∧
    done.replies.map (·.body.take 7) = [[2, 0, 0, 2, 8, 2, 0x1D]] ∧ gone.run.map (·.listed[(0 : Bay)]) = some false ∧
    gone.run.map (·.members[(0 : Bay)]) = some (some true) ∧
    (after .bayRecheck (asks s .bayRecheck [0])).run.map (·.listed[(0 : Bay)]) = some true := by decide +kernel

/-- O25: a period lowered to the survey timer and above it, and an invalid calibration with a waiting and a taken member. -/
theorem test_sense_set_period_and_run :
    let timed := surveyed.modBay 0 fun r => { r with surveyTimer := some 500 }
    let wanted := fun (s : State) body => ((s.setCalib 0 (Calib.ofRequest (req .senseSet body))).bay 0).wanted
    let run := fun taken : Bool =>
      { listed := put (Vector.replicate 12 false) 0 true, passesLeft := 0, passesRun := 1
        members := put (Vector.replicate 12 none) 0 (some taken), skipped := Vector.replicate 12 false
        results := Vector.replicate 12 none, ticket := 7, reserved := true : SurveyRun }
    let t := fun taken : Bool =>
      after .senseSet (asks { surveyed with run := some (run taken) } .senseSet [0, 0, 8, 0, 8, 0, 0, 0, 3, 0xE8])
    wanted timed [0, 0, 120, 3, 0x5C, 0, 150, 3, 1, 0xF4] = true ∧
    wanted timed [0, 0, 120, 3, 0x5C, 0, 150, 3, 1, 0xF5] = false ∧
    (t false).run = none ∧ (t false).replies.map (·.kind) = [0x50, ReqKind.senseSet.code] ∧
    (t true).run = some (run true) ∧ (t true).replies.map (·.kind) = [ReqKind.senseSet.code] := by decide +kernel

/-- O37: a save with nothing dirty, with a write in progress, and with SETTINGS dirty. -/
theorem test_store_save :
    answerOf .storeSave (asks on .storeSave []) = some (.ok, []) ∧
    (after .storeSave (asks on.settingsChanged .storeSave [])).replies = [] ∧
    (after .storeSave (asks (on.markDirty .settings) .storeSave [])).writer.writing = some (.settings Settings.factory) ∧
    ((after .storeSave (asks (bound cart) .storeSave [])).lane 0).running.map (·.op) = some .commit := by decide +kernel

/-- O38: a restart in RUNNING, a second one, and one in FAULTED. -/
theorem test_restart :
    let t := after .restart (asks (bound cart) .restart [])
    t.save = .saving ∧ t.table.map (·.owed) = [12] ∧ t.writer.writing ≠ none ∧
    answerOf .restart (asks t .restart []) = some (.busy, []) ∧
    answerOf .restart (asks { on with device := .faulted } .restart []) = some (.ok, []) := by decide +kernel

/-- O39: levels 3 and 4, in service and not. -/
theorem test_doze_notice_done :
    let s : State := { on with service := put on.service 3 (some []) }
    answerOf .doze (asks on .doze []) = some (.ok, []) ∧ answerOf .noticeDone (asks s .noticeDone [3]) = some (.ok, []) ∧
    (after .noticeDone (asks s .noticeDone [3])).service[3] = none ∧
    answerOf .noticeDone (asks on .noticeDone [3]) = some (.bayState, []) ∧
    answerOf .noticeDone (asks on .noticeDone [4]) = some (.badArg, []) ∧
    answerOf .noticeDone (asks { on with device := .faulted } .noticeDone [3]) = some (.faulted, []) := by decide +kernel

/-! ### Presence -/

/-- O40: a change that opens a window, one in OFF, and windows at 49, 50, 4 and 5 ms. -/
theorem test_presence :
    let window := fun (s : State) lv ms => s.modBay 0 fun r => { r with filter := { r.filter with window := some { level := lv, ms := ms } } }
    ((after (.rawPresenceChange 0 .seated) on).bay 0).filter.window = some { level := .seated, ms := 0 } ∧
    ((after (.rawPresenceChange 0 .seated) (inBay0 .off)).bay 0).filter.window = none ∧
    ((after (.presenceWindowExpiry 0) (window on .seated 49)).bay 0).phase = .vacant ∧
    ((after (.presenceWindowExpiry 0) (window on .seated 50)).bay 0).phase = .identifying ∧
    ((after (.presenceWindowExpiry 0) (window (bound cart) .absent 4)).bay 0).phase = .active cart ∧
    ((after (.presenceWindowExpiry 0) (window (bound cart) .absent 5)).bay 0).phase = .vacant ∧
    ((after (.presenceWindowExpiry 0) (window (bound cart) .seated 50)).bay 0).phase = .active cart := by decide +kernel

/-! ### Lanes -/

/-- O41: each way a lane waits. -/
theorem test_lane_timing :
    let x := runs .identify .readRecord 1
    ((after (.laneCommandEnd 0) (onLane0 on (x none))).lane 0).running.map (·.timer) = some (some 0) ∧
    ((after (.replyTimerExpiry 0) (onLane0 on (x (some 24)))).lane 0).running = some (x (some 24)) ∧
    ((after (.replyTimerExpiry 0) (onLane0 on (x (some 25)))).lane 0).running.map (·.attempt) = some 2 ∧
    ((after (.replyTimerExpiry 0) (onLane0 on (runs .commit .challenge 2 (some 25)))).lane 0).running.map (·.attempt) =
      some 3 ∧
    ((after (.replyTimerExpiry 0) (onLane0 on { x (some 25) with abandoned := true })).lane 0).running = none ∧
    ((after (.tagReply 0 [0]) (onLane0 on (x (some 3)))).lane 0).running = some (x (some 3)) := by decide +kernel

/-- O42: the last expiry of each transaction. -/
theorem test_no_reply :
    let rr := runs .identify .readRecord 3 (some 25)
    ((after (.replyTimerExpiry 0) (onLane0 (inBay0 .identifying) rr)).bay 0).phase = .rejected .noReply DrawFigures.zero ∧
    ((after (.replyTimerExpiry 0) (onLane0 (inBay0 .identifying) { rr with badRecord := true })).bay 0).phase =
      .rejected .recordInvalid DrawFigures.zero ∧
    ((after (.replyTimerExpiry 0) (onLane0 (inBay0 .identifying) (runs .identify .challenge 3 (some 25)))).bay 0).phase =
      .rejected .noReply DrawFigures.zero ∧
    ((after (.replyTimerExpiry 0) (onLane0 (bound (flying (.inFlight 30012 false)))
      (runs .commit .challenge 3 (some 25)))).bay 0).phase = .active (flying (.uncertain 30012)) ∧
    ((after (.replyTimerExpiry 0) (onLane0 (bound (flying (.inFlight 30012 false)))
      (runs .commit .advance 1 (some 25)))).bay 0).phase = .active (flying (.reconciling 30012 false)) := by decide +kernel

/-- O42: the last expiry of a FINAL's CHALLENGE and of a RECONCILE's, with a release in progress. -/
theorem test_no_reply_release :
    let rel : Release := { ticket := 1, reserved := true }
    let releasing := fun c => { flying c with commit := { state := c, levelSeen := .normal, release := some rel } }
    let s := fun op c => onLane0 (bound (releasing c)) (runs op .challenge 3 (some 25))
    let t := fun op c => after (.replyTimerExpiry 0) (s op c)
    (s .final (.inFlight 30012 true)).run = none ∧
    ((t .final (.inFlight 30012 true)).bay 0).phase.code = 6 ∧
    ((t .final (.inFlight 30012 true)).bay 0).phase.binding?.map (·.commit.state) = some (.uncertain 30012) ∧
    (t .final (.inFlight 30012 true)).replies =
      [{ ticket := 1, kind := 0x41, result := .commitUncertain, body := [] }] ∧
    (t .reconcile (.reconciling 30012 false)).replies.map (·.result) = [.commitUncertain] := by decide +kernel

/-- The READ_RECORD reply of a record with a capacity, a key index and a record check. -/
def recordReply (capacity key : Nat) (spoil : Byte) : List Byte :=
  let covered := toBytes 8 0x11 ++ toBytes 2 0x0203 ++ toBytes 3 capacity ++ toBytes 3 30000 ++ toBytes 1 key ++
    toBytes 2 2401
  withCheck (toBytes 1 0 ++ covered ++ [crc8 covered ^^^ spoil])

/-- O43: a good record, a bad check, key indexes 7 and 8, a capacity of 0, a revoked slot. -/
theorem test_record_reply :
    let s := onLane0 (inBay0 .identifying) (runs .identify .readRecord 1 (some 3))
    let s3 := onLane0 (inBay0 .identifying) (runs .identify .readRecord 3 (some 3))
    let phase := fun (s : State) bytes => ((after (.tagReply 0 bytes) s).bay 0).phase
    Awaiting s 0 (runs .identify .readRecord 1 (some 3)) ∧
    ((after (.tagReply 0 (recordReply 50000 7 0)) s).lane 0).running.map (·.step) = some .challenge ∧
    ((after (.tagReply 0 (recordReply 50000 0 0)) s).lane 0).running.map (·.record) = some (some record) ∧
    ((after (.tagReply 0 (recordReply 50000 0 1)) s).lane 0).running.map (·.badRecord) = some true ∧
    phase s3 (recordReply 50000 0 1) = .rejected .recordInvalid DrawFigures.zero ∧
    phase s (recordReply 50000 8 0) = .rejected .recordInvalid DrawFigures.zero ∧
    phase s (recordReply 0 0 0) = .rejected .recordInvalid DrawFigures.zero ∧
    phase { s with policy := { Policy.factory with allowed := 0xFE } } (recordReply 50000 0 0) =
      .rejected .keyRevoked DrawFigures.zero := by decide +kernel

/-- An IDENTIFY in its CHALLENGE, with the record read. -/
def challenged : Running := { runs .identify .challenge 1 (some 3) with record := some record }

/-- A value differs from its complement. -/
theorem ne_complement (x : Key) : ~~~x ≠ x := by
  intro h
  have h0 := congrArg (fun y => y.getLsbD 0) h
  simp at h0

/-- O44: premises of each clause: a wrong response, a slot code that does not fit, a holder in bay 1. -/
theorem test_identify_challenge_premises :
    let s := onLane0 (inBay0 .identifying) challenged
    let h := s.modBay 1 fun r => { r with phase := .active cart }
    Awaiting s 0 challenged ∧ s.masterKeys[0] = some 5 ∧
    (∀ master, s.masterKeys[0] = some master → ~~~tagResponse 5 0x11 9 30000 ≠ tagResponse master 0x11 9 30000) ∧
    ((s.modBayCfg 0 fun c => { c with slotCode := 0x0303 }).bayCfg 0).slotCode ≠ record.product ∧
    (s.bayCfg 0).slotCode = 0xFFFF ∧ (h.bay 1).phase.binding? = some cart ∧ cart.serial = record.serial ∧
    (∀ j, j < (1 : Bay) → j ≠ 0 → ∀ bd', (h.bay j).phase.binding? = some bd' → bd'.serial ≠ record.serial) := by
  refine ⟨by decide +kernel, by decide +kernel, ?_, by decide +kernel, by decide +kernel, by decide +kernel,
    by decide +kernel, ?_⟩
  · intro master hm
    have h5 : some master = some (5 : Key) := hm.symm.trans (by decide +kernel)
    rw [Option.some.inj h5]
    exact ne_complement _
  · intro j hj hj0
    exact absurd (Fin.ext (by have := Fin.lt_def.mp hj; simpa using this)) hj0

/-- O45: premises of a binding of the cartridge, known with owed ink and an unsure flight. -/
theorem test_binding_premises :
    let s : State := { onLane0 (inBay0 .identifying) challenged with
      table := [{ entry with owed := 20, unsure := some { target := 30012, amount := 12 }, bay := none }] }
    Awaiting s 0 challenged ∧ challenged.record = some record ∧ record.keyIndex = (0 : KeySlot).val ∧
    s.masterKeys[0] = some 5 ∧ ((s.bayCfg 0).slotCode = 0xFFFF ∨ (s.bayCfg 0).slotCode = record.product) ∧
    (∀ h bd, h ≠ 0 → (s.bay h).phase.binding? = some bd → bd.serial ≠ record.serial) := by
  refine ⟨by decide +kernel, rfl, rfl, by decide +kernel, by decide +kernel, ?_⟩
  intro h bd _ hb
  have hn : ∀ h : Bay, ((onLane0 (inBay0 .identifying) challenged).bay h).phase.binding? = none := by decide +kernel
  have := hb.symm.trans (hn h)
  simp at this

/-- O45: in a full table the last entry that names no bay goes, and while the save runs the new one owes the pending ink. -/
theorem test_binding_evicts :
    let others := (List.range 31).map fun i => { entry with serial := BitVec.ofNat 64 (100 + i), bay := none }
    let last : Entry := { entry with serial := 99, bay := some 1 }
    let s : State := { inBay0 .identifying with table := others ++ [last], save := .saving }
    let t := s.bind 0 record 0 30000
    s.table.length = 32 ∧ (s.table.find? fun e => e.serial = record.serial) = none ∧
    s.table = others.take 30 ++ { entry with serial := 130, bay := none } :: [last] ∧
    t.table.tail = others.take 30 ++ [last] ∧
    (({ s with table := [{ entry with owed := 20, bay := none }] } : State).bind 0 record 0 30000).table.map (·.owed) =
      [20] := by decide +kernel

/-- 3.4: what a binding settles, with the unsure flight taken from its target on and not below it. -/
theorem test_settle :
    let e := { entry with owed := 20, unsure := some { target := 30012, amount := 12 } }
    settle e 30012 = 8 ∧ settle e 30011 = 20 ∧ settle e 16777210 = 5 ∧ firstEvidence e 29999 = [.rollback] ∧
    firstEvidence e 30000 = [] ∧ firstEvidence { e with refilled := some .levelRise } 30000 = [.knownRefilled] := by
  decide +kernel

/-- O46: premises of a commit's and a reconcile's CHALLENGE. -/
theorem test_commit_challenge_premises :
    let s := onLane0 (bound (flying (.inFlight 30012 false))) (runs .commit .challenge 1 (some 3))
    let s' := onLane0 (bound (flying (.reconciling 30012 false))) (runs .reconcile .challenge 1 (some 3))
    Awaiting s 0 (runs .commit .challenge 1 (some 3)) ∧ (s.bay 0).phase = .active (flying (.inFlight 30012 false)) ∧
    (flying (.inFlight 30012 false)).commit.state.target? = some 30012 ∧
    s.masterKeys[(flying (.inFlight 30012 false)).keyIndex] = some 5 ∧
    (s.table.find? fun e => e.bay = some 0) = some entry ∧
    Awaiting s' 0 (runs .reconcile .challenge 1 (some 3)) ∧
    (s'.bay 0).phase = .active (flying (.reconciling 30012 false)) := by decide +kernel

/-- O46: a reconcile with a release in progress, at the target and below it, of a COMMIT and of a FINAL. -/
theorem test_reconcile_release :
    let f := fun fin => { flying (.reconciling 30012 fin) with
      acct := { cart.acct with pending := 15, inflight := 12 }
      commit :=
        { state := .reconciling 30012 fin, levelSeen := .normal, release := some { ticket := 1, reserved := true } } }
    let t := fun fin c => ((onLane0 (bound (f fin)) (runs .reconcile .challenge 1 (some 3))).reconcileCounter 0 c).bay 0
    (t true 30012).phase.code = 6 ∧ (t false 30012).slot = some .final ∧ (t false 30011).slot = some .final ∧
    (t true 30011).slot = some .final := by decide +kernel

/-- O46, O47: a wrong response exists for every key. -/
theorem test_wrong_response :
    ∀ master, (bound cart).masterKeys[cart.keyIndex] = some master →
      ~~~tagResponse 5 cart.serial 9 30012 ≠ tagResponse master cart.serial 9 30012 := by
  intro master hm
  have h : (bound cart).masterKeys[cart.keyIndex] = some 5 := by decide +kernel
  rw [h] at hm
  rw [← Option.some.inj hm]
  exact ne_complement _

/-- O47: premises of an ADVANCE reply, and what the counters around the target and the committed figure bring. -/
theorem test_advance :
    let s := onLane0 (bound (flying (.inFlight 30012 false))) (runs .commit .advance 1 (some 3))
    let bd := fun c => ((s.advanceCounter 0 c).bay 0).phase.binding?
    Awaiting s 0 (runs .commit .advance 1 (some 3)) ∧ (s.bay 0).phase = .active (flying (.inFlight 30012 false)) ∧
    (bd 30012).map (·.acct.committed) = some 30012 ∧ (bd 30012).map (·.commit.state) = some .idle ∧
    (bd 30011).map (·.evidence) = some [.advanceRefused] ∧ (bd 30000).map (·.evidence) = some [.advanceRefused] ∧
    (bd 29999).map (·.evidence) = some [.rollback] ∧ (bd 29999).map (·.commit.state) = some .stopped := by decide +kernel

/-- O47: with a release in progress, a commit that leaves ink goes on to FINAL, and a FINAL ends in RELEASED. -/
theorem test_advance_release :
    let rel : Release := { ticket := 1, reserved := true }
    let f := fun fin => { flying (.inFlight 30012 fin) with
      acct := { cart.acct with pending := 15, inflight := 12 }
      commit := { state := .inFlight 30012 fin, levelSeen := .normal, release := some rel } }
    let s := fun fin => onLane0 (bound (f fin)) (runs .commit .advance 1 (some 3))
    (((s false).advanceCounter 0 30012).bay 0).slot = some .final ∧
    (((s true).advanceCounter 0 30012).bay 0).phase.code = 6 ∧
    ((s true).advanceCounter 0 30012).replies.map (·.result) = [.ok] ∧
    ((s true).advanceCounter 0 30011).replies.map (·.result) = [.commitUncertain] := by decide +kernel

/-- O48: after last-served 3 position 0 comes first; FINAL before COMMIT; write hold keeps both waiting. -/
theorem test_arbiter :
    let slot := fun (s : State) b op => s.modBay b fun r => { r with slot := some op }
    let s := slot (slot (slot on 0 .commit) 1 .commit) 2 .identify
    let chosen := fun s : State => ((s.arbitrate 0).lane 0).running.map fun r => (r.position, r.op)
    chosen s = some (0, .commit) ∧ chosen (slot s 3 .final) = some (3, .final) ∧
    chosen (s.modLane 0 fun l => { l with writeHold := true }) = some (2, .identify) ∧
    chosen (s.modLane 0 fun l => { l with lastServed := 0 }) = some (1, .commit) ∧ chosen on = none ∧
    searchRank 3 0 = 0 ∧ searchRank 0 0 = 3 := by decide +kernel

/-! ### Levels, timers, readings -/

/-- O50: an AT_SWATH target on each line state. -/
theorem test_line_evaluation :
    let s := bound { cart with ink := .out }
    let line := fun l => (((s.modBay 0 fun r => { r with line := l }).evalLine 0).bay 0).line
    s.target 0 = .atSwath ∧ line .inhibit = .inhibit ∧ line .allow = .armed 0 ∧ line (.armed 1500) = .armed 1500 ∧
    ((bound cart).evalLine 0).bay 0 = (bound cart).bay 0 ∧ (({ bound cart with device := .faulted }.evalLine 0).bay 0).line = .inhibit := by
  decide +kernel

/-- O51: free pending at the commit step and one below it, and the level trigger. -/
theorem test_triggers :
    let pend := fun n : Nat => { cart with acct := { cart.acct with pending := n, carried := n } }
    let slot := fun bd => (((bound bd).handOn 0).bay 0).slot
    slot (pend 8) = some .commit ∧ slot (pend 7) = none ∧
    slot { pend 1 with acct := { cart.acct with committed := 45000, pending := 1 } } = some .commit ∧
    (((bound { pend 0 with acct := { cart.acct with committed := 45000, pending := 0 } }).handOn 0).latchOf 0 4) = some 2 := by
  decide +kernel

/-- O52: 1999 and 2000 ms, the survey period, the supply intervals of lanes watched closely and not. -/
theorem test_timers :
    let armed := fun ms => bound cart |>.modBay 0 fun r => { r with line := .armed ms }
    let survey := fun ms => surveyed.modBay 0 fun r => { r with surveyTimer := some ms }
    let supply := fun (s : State) ms => s.modLane 0 fun l => { l with supplyTimer := some ms }
    let waiting := on.modBay 0 fun r => { r with slot := some .commit }
    ((after (.holdLimitExpiry 0) (armed 1999)).bay 0).line = .armed 1999 ∧
    ((after (.holdLimitExpiry 0) (armed 2000)).bay 0).line = .inhibit ∧
    (after (.surveyTimerExpiry 0) (survey 999)).converter = none ∧
    (after (.surveyTimerExpiry 0) (survey 1000)).converter = some { channel := 0, discard := false } ∧
    (after (.supplyTimerExpiry 0) (supply on 999)).converter = none ∧
    (after (.supplyTimerExpiry 0) (supply on 1000)).converter = some { channel := 12, discard := false } ∧
    (after (.supplyTimerExpiry 0) (supply on 10)).converter = none ∧
    (after (.supplyTimerExpiry 0) (supply (onLane0 on (runs .commit .advance 1 (some 0))) 10)).converter =
      some { channel := 12, discard := false } ∧
    (after (.supplyTimerExpiry 0) (supply (onLane0 on (runs .commit .advance 1 none)) 999)).converter = none ∧
    (after (.supplyTimerExpiry 0) (supply waiting 9)).converter = none ∧
    (after (.supplyTimerExpiry 0) (supply waiting 10)).converter = some { channel := 12, discard := false } := by
  decide +kernel

/-- O52: a due lane before due bays, and the earlier of two due bays. -/
theorem test_converter_order :
    let due := fun (s : State) b n => s.modBay b fun r => { r with due := some n }
    let s := due (due on 5 7) 2 7
    s.converterArbiter.converter = some { channel := 2, discard := false } ∧
    (due s 9 6).converterArbiter.converter = some { channel := 9, discard := false } ∧
    (s.modLane 1 fun l => { l with supplyDue := some 8 }).converterArbiter.converter =
      some { channel := 13, discard := false } ∧ on.converterArbiter.converter = none := by decide +kernel

/-- O53: raw readings 599, 600, 631 and 632 against a hold of 600. -/
theorem test_write_hold :
    let s : State := { on with converter := some { channel := 13, discard := false } }
    let held := s.modLane 1 fun l => { l with writeHold := true }
    let hold := fun (s : State) raw => ((after (.conversionComplete raw) s).lane 1).writeHold
    hold s 599 = true ∧ hold s 600 = false ∧ hold held 631 = true ∧ hold held 632 = false ∧
    (after (.conversionComplete 599) s).latchOf 13 10 = some 2 ∧
    (after (.conversionComplete 599) on).converter = none := by decide +kernel

/-- O53: a survey that reaches its persist adds LEVEL_RISE; a discarded reading judges nothing. -/
theorem test_survey_reading :
    let s : State := { surveyed.modBay 0 fun r => { r with counter := 2 } with
      converter := some { channel := 0, discard := false } }
    let t := after (.conversionComplete 860) s
    (t.bay 0).phase.binding?.map (·.evidence) = some [.levelRise] ∧ (t.bay 0).counter = 0 ∧
    t.table.map (·.lastSensed) = [some 1000] ∧ (t.bay 0).surveyTimer = some 0 ∧
    ((after (.conversionComplete 860) { s with converter := some { channel := 0, discard := true } }).bay 0).counter = 2 := by
  decide +kernel

/-- O54: a latch, a second one, and the attention line. -/
theorem test_latches :
    let s := on.latch 0 .inkOut
    s.latchOf 0 5 = some 0 ∧ (s.latch 0 .inkOut).latches = s.latches ∧ s.attention = true ∧ on.attention = false ∧
    ({ s with dozing := true } : State).wake = true ∧ s.offerable 0 = true := by decide +kernel

/-! ### Store and power -/

/-- O55: a success, a failure with another section dirty, and the end of a walk that a RESTART waits for. -/
theorem test_store_write :
    let w : Writer := { writing := some (.table [entry]), dirty := Sections.empty, failed := Sections.empty }
    let s : State := { on with writer := w, waiters := [{ isRestart := true, ticket := 4, reserved := true }] }
    let ok := after (.storeWriteComplete true) s
    let bad := after (.storeWriteComplete false) { s with writer := { w with dirty := { Sections.empty with policy := true } } }
    ok.store.table = some [entry] ∧ ok.save = .saved ∧ ok.replies.map (·.result) = [.ok] ∧ ok.writer.writing = none ∧
    bad.store = on.store ∧ bad.writer.writing = some (.policy Policy.factory) ∧ bad.writer.failed.table = true ∧
    (after (.storeWriteComplete true) on).writer = on.writer := by decide +kernel

/-- O55: the end of the walk that a RESTART without a reservation waits for. -/
theorem test_walk_end_unreserved :
    let s : State := { on with
      writer := { writing := some (.table [entry]), dirty := Sections.empty, failed := Sections.empty }
      waiters := [{ isRestart := true, ticket := 4, reserved := false }] }
    let t := after (.storeWriteComplete true) s
    t.device = .starting ∧ t.replies = [] ∧ t.store.table = some [entry] := by decide +kernel

/-- O56: an assertion and a deassertion. -/
theorem test_pfail :
    let t := after .pfailAssert (bound cart)
    t.save = .saving ∧ t.table.map (·.owed) = [12] ∧ t.writer.writing = some (.table t.table) ∧
    (after .pfailDeassert t).save = .none ∧ (after .pfailDeassert t).table = [entry] ∧
    (after .pfailAssert t).save = .saving ∧ (after .pfailDeassert on).save = .none := by decide +kernel

theorem test_power_on : (after .powerOn (bound cart)).device = .starting ∧ ((after .resetPin (bound cart)).bay 0).phase = .off := by
  decide +kernel

/-! ### Invariants: a bound state meets them and steps -/

/-- The bay states of the bound state. -/
theorem bound_phase (b : Bay) : ((bound cart).bay b).phase = if b = 0 then .active cart else .vacant := by
  revert b
  decide +kernel

/-- O57. -/
theorem test_permit_safe_premises :
    PermitSafe (bound cart) ∧ ∃ t, step { bound cart with pending := [.emptyFrame] } = .next t := by
  refine ⟨fun b hb => ⟨rfl, Or.inl ?_⟩, _, rfl⟩
  have h0 : ∀ b : Bay, ((bound cart).bay b).line.allows = true → b = 0 := by decide +kernel
  exact ⟨cart, by rw [bound_phase, h0 b hb]; rfl⟩

/-- O58. -/
theorem test_accounts_premises : AccountsBalanced (bound cart) := by
  intro b bd hb
  rw [bound_phase] at hb
  by_cases h : b = 0
  · rw [if_pos h] at hb
    obtain rfl := Option.some.inj hb
    refine ⟨⟨by decide, by decide, by decide, fun _ => by decide⟩, fun _ => rfl⟩
  · rw [if_neg h] at hb
    exact absurd hb (by simp [Phase.binding?])

/-- O59: a full request queue. -/
theorem test_queues_premises : QueuesBounded { on with requests := List.replicate 4 (req .doze []) } := by
  refine ⟨by decide, ?_⟩
  decide +kernel

/-- O60. -/
theorem test_table_premises : TableConsistent (bound cart) := by
  refine ⟨⟨by decide, by decide⟩, ?_, ?_, ⟨?_, ?_⟩, ?_, ?_, ?_⟩
  · intro e he b hb
    have he : e = entry := List.mem_singleton.mp he
    subst he
    have hb : b = 0 := (Option.some.inj hb).symm
    exact ⟨cart, by rw [bound_phase, if_pos hb]; rfl, rfl⟩
  · intro b bd hb
    rw [bound_phase] at hb
    by_cases h : b = 0
    · rw [if_pos h] at hb
      obtain rfl := Option.some.inj hb
      exact ⟨entry, List.mem_singleton.mpr rfl, by rw [h]; rfl, rfl⟩
    · rw [if_neg h] at hb
      exact absurd hb (by simp [Phase.binding?])
  · have h : ∀ b : Bay, ((bound cart).bay b).slot ≠ some .identify := by decide +kernel
    exact fun b hb => absurd hb (h b)
  · have h : ∀ l : Lane, ((bound cart).lane l).running = none := by decide +kernel
    intro l r hr
    rw [h l] at hr
    exact absurd hr (by simp)
  · have h : ∀ l : Lane, ((bound cart).lane l).running = none := by decide +kernel
    intro l r hr
    rw [h l] at hr
    exact absurd hr (by simp)
  · exact fun h => absurd rfl h
  · exact fun _ => rfl

end Sys2Proof.Tests
end

/-! Ink metering: PURGE_REPORT in every bay state (R83) and the drop settings of DROPS_SET (R78). -/

namespace Sys2Proof.Machine

/-! ### Fields of a body -/

/-- A field behind a number of `n` bytes. -/
theorem field_after_toBytes {n start : Nat} (v m : Nat) (rest : List Byte) (h : n ≤ start) :
    field (toBytes n v ++ rest) start m = field rest (start - n) m :=
  field_skip (toBytes_length n v) h

/-- The first byte of a body. -/
theorem byteAt_zero (r : Request) : r.byteAt 0 = (r.body.headD 0).toNat := by
  unfold Request.byteAt field
  cases r.body with
  | nil => rfl
  | cons x xs => simp [ofBytes]

/-- The word behind a bay number (R179). -/
theorem wordAt_one {r : Request} {n v : Nat} (h : r.body = toBytes 1 n ++ toBytes 2 v) (hv : v < 65536) :
    r.wordAt 1 = v := by
  unfold Request.wordAt
  rw [h, field_after_toBytes _ _ _ le_rfl, field_all]
  exact Nat.mod_eq_of_lt hv

/-! ### Figures handed on -/

/-- A bay that is not ACTIVE has no figures to hand on (R94). -/
theorem handOn_of_not_active {s : State} {b : Bay} (h : (s.bay b).phase.active? = none) : s.handOn b = s := by
  have hink : s.computeInk b = s := by simp only [State.computeInk, h]
  rw [State.handOn, hink]
  simp only [State.evalStep, State.evalTriggers, h]

/-- Choosing one bay from the list of all. -/
theorem allBays_filter_one (b : Bay) (p : Bool) : (allBays.filter fun x => x == b && p) = if p then [b] else [] := by
  decide +revert

/-- A hand-on that chooses at most bay `b`. -/
theorem handOnAll_one (s : State) (b : Bay) (p : Bool) :
    (s.handOnAll fun x => x == b && p) = if p then s.handOn b else s := by
  rw [State.handOnAll, ← List.foldl_filter, allBays_filter_one]
  cases p <;> rfl

/-! ### Which bays take a report (R79) -/

theorem handling_active {s : State} {b : Bay} {bd : Binding} (h : (s.bay b).phase = .active bd) :
    s.handling b = .charged := by
  rw [State.handling, h]
  rfl

theorem handling_rejected_allow {s : State} {b : Bay} {reason : RejectReason} {d : DrawFigures}
    (h : (s.bay b).phase = .rejected reason d) (hm : s.policy.rejectMode = .allow) : s.handling b = .drawnOnly := by
  rw [State.handling, h, hm]
  rfl

/-- A bay neither ACTIVE nor REJECTED under ALLOW drops a report (R79). -/
theorem handling_dropped {s : State} {b : Bay} (ha : (s.bay b).phase.active? = none)
    (hr : ∀ reason d, (s.bay b).phase = .rejected reason d → s.policy.rejectMode = .inhibit) :
    s.handling b = .dropped := by
  unfold State.handling
  cases hp : (s.bay b).phase with
  | active bd => rw [hp] at ha; simp [Phase.active?] at ha
  | rejected reason d => rw [hr reason d hp]; rfl
  | off | vacant | seated | identifying | released => rfl

/-! ### PURGE_REPORT (R83) -/

/-- The greatest purge contribution: 60,000 ms at the greatest rate (R83). -/
theorem purgeContribution_le (ms : Nat) {rate : Nat} (h : rate ≤ 4095) :
    purgeContribution ms rate ≤ 245700000000000 := by
  have hms : clamp 1 60000 ms ≤ 60000 := by unfold clamp; omega
  calc clamp 1 60000 ms * rate * 10 ^ 6 ≤ 60000 * 4095 * 10 ^ 6 :=
        Nat.mul_le_mul_right _ (Nat.mul_le_mul hms h)
    _ = 245700000000000 := by norm_num

/-- A purge taken into a bay state, handed on when it changed a figure (R83, R94). -/
theorem takePurge_of_phase {s : State} {b : Bay} {p : Phase} (h : (s.bay b).phase = p) (ms : Nat) :
    let grown := p.takeIn (purgeContribution ms (s.bayCfg b).purgeRate)
    let taken := s.modBay b fun x => { x with phase := grown }
    s.takePurge b ms = (if grown = p then taken else taken.handOn b).runArbiters := by
  intro grown taken
  have htaken : (s.modBay b fun x =>
      { x with phase := x.phase.takeIn (purgeContribution ms (s.bayCfg b).purgeRate) }) = taken := by
    simp only [taken, grown, State.modBay, h]
  have hphase : (taken.bay b).phase = grown := by simp only [taken, bay_modBay_same]
  simp only [State.takePurge, htaken, handOnAll_one, hphase, h]
  by_cases hg : grown = p <;> simp [hg]

/-- A purge of an ACTIVE bay is charged, and handed on when it changed a figure (R83, R94). -/
theorem applyPurge_active {s : State} {b : Bay} {bd : Binding} (h : (s.bay b).phase = .active bd) (ms : Nat) :
    let charged := bd.charge (purgeContribution ms (s.bayCfg b).purgeRate)
    let taken := s.modBay b fun x => { x with phase := .active charged }
    s.applyPurge b ms = (if charged = bd then taken else taken.handOn b).runArbiters := by
  simp only [State.applyPurge, handling_active h, takePurge_of_phase h, Phase.takeIn, Phase.active.injEq]

/-- A purge of a REJECTED bay under ALLOW counts as drawn, and hands nothing on (R79, R83). -/
theorem applyPurge_rejected {s : State} {b : Bay} {reason : RejectReason} {d : DrawFigures}
    (h : (s.bay b).phase = .rejected reason d) (hm : s.policy.rejectMode = .allow) (ms : Nat) :
    let grown := d.grow (purgeContribution ms (s.bayCfg b).purgeRate)
    s.applyPurge b ms = (s.modBay b fun x => { x with phase := .rejected reason grown }).runArbiters := by
  intro grown
  have hquiet : ((s.modBay b fun x => { x with phase := .rejected reason grown }).bay b).phase.active? = none := by
    rw [bay_modBay_same]
    rfl
  simp only [State.applyPurge, handling_rejected_allow h hm, takePurge_of_phase h, Phase.takeIn,
    handOn_of_not_active hquiet, grown, ite_self]

/-- A purge that a bay drops latches UNCHARGED and no more (R80). -/
theorem applyPurge_dropped {s : State} {b : Bay} (h : s.handling b = .dropped) (ms : Nat) :
    s.applyPurge b ms = s.latch (baySite b) .uncharged := by
  simp only [State.applyPurge, h, State.dropReport]

section

variable {s : State} {r : Request} {rest : List Request}

/-- PURGE_REPORT at its take acts on the bay its body names (R83, R172). -/
theorem exec_purgeReport_taking (h : Taking s .purgeReport r rest) (hl : r.body.length = 3) :
    exec .purgeReport s = .next ((s.dequeued rest).withBay r fun b =>
      ((s.dequeued rest).applyPurge b (r.wordAt 1)).reply r .ok
        (toBytes 1 ((s.dequeued rest).handling b).code)) := by
  show execPurgeReport s = _
  rw [execPurgeReport, take_taking h (by simp [ReqKind.lengthOk, hl])]

/-- PURGE_REPORT of a bay and a duration (R83). -/
theorem exec_purgeReport_bay {b : Bay} {ms : Nat} (hms : ms < 65536) (h : Taking s .purgeReport r rest)
    (hb : r.body = toBytes 1 b.val ++ toBytes 2 ms) :
    exec .purgeReport s = .next (((s.dequeued rest).applyPurge b ms).place
      (r.answer .ok (toBytes 1 ((s.dequeued rest).handling b).code))) := by
  rw [exec_purgeReport_taking h (by simp [hb]), withBay_bay hb, wordAt_one hb hms]
  rfl

end

/-- Settles O20, by the three ways a bay takes a report. -/
theorem purgeReported : Obligations.PurgeReported := by
  refine ⟨fun s r rest h hl habove => ?_, fun s r rest b ms hms h hb => ?_⟩
  · rw [exec_purgeReport_taking h hl, withBay_above (by rwa [byteAt_zero])]
    rfl
  · have hexec := exec_purgeReport_bay hms h hb
    refine ⟨purgeContribution_le ms, fun bd hp => ?_, fun reason d hp hm => ?_, fun ha hr => ?_⟩
    · have hp' : ((s.dequeued rest).bay b).phase = .active bd := hp
      rw [hexec, applyPurge_active hp', handling_active hp']
      rfl
    · have hp' : ((s.dequeued rest).bay b).phase = .rejected reason d := hp
      rw [hexec, applyPurge_rejected hp' hm, handling_rejected_allow hp' hm]
      rfl
    · have hd : (s.dequeued rest).handling b = .dropped := handling_dropped ha hr
      rw [hexec, applyPurge_dropped hd, hd]
      rfl

/-! ### DROPS_SET (R78) -/

section

variable {s : State} {r : Request} {rest : List Request}

/-- The drop settings that a body laid out in six words gives (R78, R179). -/
theorem withDrops_laid_out {n v0 v1 v2 v3 k p : Nat}
    (h0 : v0 < 65536) (h1 : v1 < 65536) (h2 : v2 < 65536) (h3 : v3 < 65536) (hk : k < 65536) (hp : p < 65536)
    (hb : r.body =
      toBytes 1 n ++ toBytes 2 v0 ++ toBytes 2 v1 ++ toBytes 2 v2 ++ toBytes 2 v3 ++ toBytes 2 k ++ toBytes 2 p)
    (c : BaySettings) :
    c.withDrops r =
      { c with vol := #v[v0, v1, v2, v3], scale := max 768 (min 1280 k), purgeRate := min 4095 p } := by
  simp [BaySettings.withDrops, Request.wordAt, hb, field_after_toBytes, field_front, field_all, clamp,
    Nat.mod_eq_of_lt, h0, h1, h2, h3, hk, hp]

/-- DROPS_SET at its take acts on the bay its body names (R78, R172). -/
theorem exec_dropsSet_taking (h : Taking s .dropsSet r rest) (hl : r.body.length = 13) :
    exec .dropsSet s = .next ((s.dequeued rest).withBay r fun b =>
      ((s.dequeued rest).modBayCfg b fun c => c.withDrops r).settingsChanged.reply r .ok
        (((s.dequeued rest).bayCfg b).withDrops r).dropsBody) := by
  show execDropsSet s = _
  rw [execDropsSet, take_taking h (by simp [ReqKind.lengthOk, hl])]

end

/-- Settles O23: the body read back field by field, and the refusal of a bay number above 11. -/
theorem dropsSetStores : Obligations.DropsSetStores := by
  refine ⟨fun s r rest b v0 v1 v2 v3 k p h h0 h1 h2 h3 hk hp hb => ?_, fun s r rest h hl habove => ?_⟩
  · have hdrops := withDrops_laid_out h0 h1 h2 h3 hk hp hb
    have hbay : r.body = toBytes 1 b.val ++
        (toBytes 2 v0 ++ toBytes 2 v1 ++ toBytes 2 v2 ++ toBytes 2 v3 ++ toBytes 2 k ++ toBytes 2 p) := by
      simpa only [List.append_assoc] using hb
    rw [exec_dropsSet_taking h (by simp [hb]), withBay_bay hbay]
    simp only [hdrops]
    rfl
  · rw [exec_dropsSet_taking h hl, withBay_above (by rwa [byteAt_zero])]
    rfl

end Sys2Proof.Machine

/-! Permit lines: the target that an evaluation forms (R127) and its action on the line state (R129). -/

namespace Sys2Proof.Machine

/-! ### The more restrictive of two modes (R127) -/

@[simp] theorem strictest_allow_left (m : PermitMode) : PermitMode.allow.strictest m = m := by
  cases m <;> rfl

@[simp] theorem strictest_allow_right (m : PermitMode) : m.strictest .allow = m := by
  cases m <;> rfl

/-- INHIBIT wins over AT_SWATH, and AT_SWATH over ALLOW (R127). -/
theorem strictest_eq (m n : PermitMode) :
    m.strictest n =
      if m = .inhibit ∨ n = .inhibit then .inhibit
      else if m = .atSwath ∨ n = .atSwath then .atSwath
      else .allow := by
  cases m <;> cases n <;> rfl

/-! ### The target of a bay state (R127) -/

section

variable {p : Phase} (pol : Policy)

/-- A bay state that is neither ACTIVE nor REJECTED has the target INHIBIT (R127). -/
theorem phase_target_closed (ha : p.active? = none) (hr : ∀ reason d, p ≠ .rejected reason d) :
    p.target pol = .inhibit := by
  cases p with
  | active bd => exact absurd ha (Option.some_ne_none bd)
  | rejected reason d => exact absurd rfl (hr reason d)
  | off | vacant | seated | identifying | released => rfl

/-- A REJECTED bay takes the reject mode (R127). -/
theorem phase_target_rejected (reason : RejectReason) (d : DrawFigures) :
    (Phase.rejected reason d).target pol = if pol.rejectMode = .allow then .allow else .inhibit := by
  unfold Phase.target
  cases pol.rejectMode <;> rfl

/-- An ACTIVE bay takes the more restrictive of the refill mode, when REFILLED, and the out mode, when OUT (R127). -/
theorem phase_target_active (bd : Binding) :
    (Phase.active bd).target pol =
      (if bd.evidence = [] then .allow else pol.refillMode).strictest
        (if bd.ink = .out then pol.outMode else .allow) := by
  simp [Phase.target, Binding.isRefilled]

end

/-! ### The target of a bay (R127) -/

section

variable {s : State} {b : Bay}

theorem target_not_running (h : s.device ≠ .running) : s.target b = .inhibit :=
  if_neg (by simpa using h)

theorem target_running (h : s.device = .running) : s.target b = (s.bay b).phase.target s.policy :=
  if_pos (by simpa using h)

/-- The four cases of an ACTIVE bay: GENUINE or REFILLED, OUT or not (R127). -/
theorem target_active {bd : Binding} (h : s.device = .running) (hp : (s.bay b).phase = .active bd) :
    (bd.evidence = [] → bd.ink ≠ .out → s.target b = .allow) ∧
    (bd.evidence ≠ [] → bd.ink ≠ .out → s.target b = s.policy.refillMode) ∧
    (bd.evidence = [] → bd.ink = .out → s.target b = s.policy.outMode) ∧
    (bd.evidence ≠ [] → bd.ink = .out → s.target b = s.policy.refillMode.strictest s.policy.outMode) := by
  rw [target_running h, hp, phase_target_active]
  refine ⟨fun he hi => ?_, fun he hi => ?_, fun he hi => ?_, fun he hi => ?_⟩ <;> simp [he, hi]

/-! ### The evaluation of a line (R129) -/

theorem line_evalLine (s : State) (b : Bay) :
    ((s.evalLine b).bay b).line = (s.bay b).line.evaluate (s.target b) := by
  rw [State.evalLine, bay_modBay_same]

/-- An evaluation changes the line of its bay alone (R129). -/
theorem evalLine_changes_line (s : State) (b : Bay) :
    s.evalLine b = s.modBay b fun x => { x with line := ((s.evalLine b).bay b).line } := by
  rw [line_evalLine]
  rfl

/-- The target INHIBIT inhibits any line (R129). -/
theorem line_evalLine_inhibit (h : s.target b = .inhibit) : ((s.evalLine b).bay b).line = .inhibit := by
  rw [line_evalLine, h]
  rfl

/-- The target ALLOW lets any line allow (R129). -/
theorem line_evalLine_allow (h : s.target b = .allow) : ((s.evalLine b).bay b).line = .allow := by
  rw [line_evalLine, h]
  rfl

/-- The target AT_SWATH arms a line that allows, and leaves any other as it stands (R129). -/
theorem line_evalLine_atSwath (h : s.target b = .atSwath) :
    ((s.evalLine b).bay b).line = if (s.bay b).line = .allow then .armed 0 else (s.bay b).line := by
  rw [line_evalLine, h]
  cases (s.bay b).line <;> rfl

end

/-- Settles O50, by R129's table for each target and R127's target for each bay state. -/
theorem permitLineEvaluated : Obligations.PermitLineEvaluated := by
  intro s b
  refine ⟨evalLine_changes_line s b, line_evalLine_inhibit, line_evalLine_allow, fun ht => ?_, target_not_running,
    fun hrun => ⟨fun ha hr => ?_, fun reason d hp => ?_, fun bd hp => ?_⟩⟩
  · rw [line_evalLine_atSwath ht]
    exact ⟨fun hl => by simp [hl], fun hl => by simp [hl], fun ms hl => by simp [hl]⟩
  · rw [target_running hrun, phase_target_closed s.policy ha hr]
  · rw [target_running hrun, hp, phase_target_rejected]
  · rw [← strictest_eq]
    exact target_active hrun hp

end Sys2Proof.Machine

/-! What every operation keeps of the permit lines (R127), of the accounts (R91, R98) and of the room in the reply queue
(R171): one relation between the state before and after, one lemma per operation, and the invariants O57, O58 and O59
read off at the commands. -/

namespace Sys2Proof.Machine

/-! ### One bay's part of the invariants -/

/-- A bay's line allows only where R127 lets it, in a device state and under a policy. -/
def BayRec.LineOk (d : DeviceState) (p : Policy) (r : BayRec) : Prop :=
  r.line.allows = true →
    d = .running ∧ ((∃ bd, r.phase = .active bd) ∨ ∃ reason x, r.phase = .rejected reason x ∧ p.rejectMode = .allow)

/-- A bound bay's figures balance, and its flight has a target. -/
def Binding.Sound (bd : Binding) : Prop := bd.Balanced ∧ bd.FlightOk

/-- A bay's binding, where it has one, is sound. -/
def BayRec.AccountOk (r : BayRec) : Prop := ∀ bd, r.phase.binding? = some bd → bd.Sound

/-- The reservations a bay's release holds: one or none (R171). -/
def BayRec.held (r : BayRec) : Nat := if (r.release?.map (·.reserved)).getD false then 1 else 0

theorem permitSafe_iff (s : State) : PermitSafe s ↔ ∀ b, (s.bay b).LineOk s.device s.policy := Iff.rfl

theorem accountsBalanced_iff (s : State) : AccountsBalanced s ↔ ∀ b, (s.bay b).AccountOk := Iff.rfl

/-- An evaluated line is in order whatever it was before (R129). -/
theorem lineOk_evaluate {d : DeviceState} {p : Policy} {r : BayRec} {m : PermitMode}
    (hm : m = if d == .running then r.phase.target p else .inhibit) :
    ({ r with line := r.line.evaluate m } : BayRec).LineOk d p := by
  intro hl
  have hne : m ≠ .inhibit := by
    rintro rfl
    simp [Line.evaluate, Line.allows] at hl
  by_cases hd : d = .running
  · rw [if_pos (by simp [hd])] at hm
    refine ⟨hd, ?_⟩
    cases hp : r.phase with
    | active bd => exact .inl ⟨bd, rfl⟩
    | rejected reason x =>
      rw [hp, phase_target_rejected] at hm
      by_cases hmode : p.rejectMode = .allow
      · exact .inr ⟨reason, x, rfl, hmode⟩
      · rw [if_neg hmode] at hm
        exact absurd hm hne
    | off | vacant | seated | identifying | released => rw [hp] at hm; exact absurd hm hne
  · rw [if_neg (by simpa using hd)] at hm
    exact absurd hm hne

/-- A bay's record keeps its part of the invariants. -/
structure RecKeeps (d : DeviceState) (p : Policy) (r r' : BayRec) : Prop where
  line : r.LineOk d p → r'.LineOk d p
  account : r.AccountOk → r'.AccountOk
  held : r'.held ≤ r.held

section

variable {d : DeviceState} {p : Policy} {r r' : BayRec}

/-- A record with the same phase and line is as well kept. -/
theorem RecKeeps.of_same (hp : r'.phase = r.phase) (hl : r'.line = r.line) : RecKeeps d p r r' := by
  refine ⟨?_, ?_, ?_⟩
  · simp only [BayRec.LineOk, hp, hl]
    exact id
  · simp only [BayRec.AccountOk, hp]
    exact id
  · simp only [BayRec.held, BayRec.release?, hp]
    exact le_rfl

/-- A record whose phase is as before and whose line allows no more. -/
theorem RecKeeps.of_line (hp : r'.phase = r.phase) (hl : r'.line.allows = true → r.line.allows = true) :
    RecKeeps d p r r' := by
  have hsame : RecKeeps d p r { r' with line := r.line } := RecKeeps.of_same hp rfl
  exact ⟨fun h ha => hsame.line h (hl ha), hsame.account, hsame.held⟩

/-- A bay that is bound no more holds no reservation, and its account is closed. -/
theorem AccountOk.of_unbound (h : r.phase.binding? = none) : r.AccountOk := fun bd hb => by
  rw [h] at hb
  exact absurd hb (by simp)

theorem held_of_unbound (h : r.phase.binding? = none) : r.held = 0 := by
  simp [BayRec.held, BayRec.release?, h]

/-- A bound bay holds what its release holds. -/
theorem held_of_bound {bd : Binding} (h : r.phase.binding? = some bd) :
    r.held = if (bd.commit.release.map (·.reserved)).getD false then 1 else 0 := by
  simp [BayRec.held, BayRec.release?, h]

end

@[simp] theorem binding_mapBinding (f : Binding → Binding) (p : Phase) :
    (p.mapBinding f).binding? = p.binding?.map f := by
  cases p <;> rfl

/-- A binding rewritten in place leaves the line as much in order as it was. -/
theorem lineOk_mapBinding {d : DeviceState} {p : Policy} {r : BayRec} (f : Binding → Binding) (h : r.LineOk d p) :
    ({ r with phase := r.phase.mapBinding f } : BayRec).LineOk d p := by
  intro ha
  obtain ⟨hd, ⟨bd, hp⟩ | ⟨reason, x, hp, hm⟩⟩ := h ha
  · exact ⟨hd, .inl ⟨f bd, by simp [hp, Phase.mapBinding]⟩⟩
  · exact ⟨hd, .inr ⟨reason, x, by simp [hp, Phase.mapBinding], hm⟩⟩

/-- A binding rewritten in place to a sound one leaves the account in order. -/
theorem accountOk_mapBinding {r : BayRec} {f : Binding → Binding}
    (hf : ∀ bd, r.phase.binding? = some bd → bd.Sound → (f bd).Sound) (h : r.AccountOk) :
    ({ r with phase := r.phase.mapBinding f } : BayRec).AccountOk := by
  intro bd' hb
  obtain ⟨bd, hbd, rfl⟩ := Option.map_eq_some_iff.mp ((binding_mapBinding f r.phase).symm.trans hb)
  exact hf bd hbd (h bd hbd)

/-- A binding rewritten in place, with its release kept and its account left sound. -/
theorem RecKeeps.of_mapBinding {d : DeviceState} {p : Policy} (r : BayRec) {f : Binding → Binding}
    (h : ∀ bd, r.phase.binding? = some bd → (bd.Sound → (f bd).Sound) ∧ (f bd).commit.release = bd.commit.release) :
    RecKeeps d p r { r with phase := r.phase.mapBinding f } := by
  refine ⟨lineOk_mapBinding f, accountOk_mapBinding fun bd hbd => (h bd hbd).1, ?_⟩
  · cases hb : r.phase.binding? with
    | none => simp [held_of_unbound, hb]
    | some bd =>
      have hb' : ({ r with phase := r.phase.mapBinding f } : BayRec).phase.binding? = some (f bd) := by simp [hb]
      rw [held_of_bound hb, held_of_bound hb', (h bd hb).2]

/-! ### The room in the reply queue (R171) -/

/-- Placed replies and reservations. -/
def State.occupied (s : State) : Nat := s.replies.length + s.reservations

/-- The reservation a SURVEY_RUN holds. -/
def runHeld : Option SurveyRun → Nat
  | some r => if r.reserved then 1 else 0
  | none => 0

theorem countBays_eq_sum (p : Bay → Bool) : (allBays.filter p).length = ∑ b : Bay, if p b then 1 else 0 := by
  have hlist : ∀ l : List Bay, (l.filter p).length = (l.map fun b => if p b then 1 else 0).sum := by
    intro l
    induction l with
    | nil => rfl
    | cons b l ih => by_cases h : p b <;> simp [h, ih, Nat.add_comm]
  rw [hlist, Fin.sum_univ_def]
  rfl

theorem occupied_eq (s : State) :
    s.occupied = s.replies.length + s.requests.length + (∑ b : Bay, (s.bay b).held) +
      (s.waiters.filter (·.reserved)).length + runHeld s.run := by
  unfold State.occupied State.reservations
  rw [countBays_eq_sum]
  cases s.run <;> simp only [runHeld, BayRec.held] <;> omega

end Sys2Proof.Machine

/-! The relation `Keeps` and its lemmas, in the order of the operations: permit lines, accounts and room in the queues. -/

namespace Sys2Proof.Machine

/-- From `s` to `t`, every line that was in order still is, every account too, and at most `n` replies or reservations more
are held. -/
structure Keeps (n : Nat) (s t : State) : Prop where
  line : ∀ b, (s.bay b).LineOk s.device s.policy → (t.bay b).LineOk t.device t.policy
  account : ∀ b, (s.bay b).AccountOk → (t.bay b).AccountOk
  requests : t.requests.length ≤ s.requests.length
  room : t.occupied ≤ s.occupied + n

namespace Keeps

variable {m n : Nat} {s t u : State}

theorem refl (s : State) : Keeps 0 s s := ⟨fun _ => id, fun _ => id, le_rfl, le_rfl⟩

theorem trans (h : Keeps m s t) (h' : Keeps n t u) : Keeps (m + n) s u where
  line b hl := h'.line b (h.line b hl)
  account b ha := h'.account b (h.account b ha)
  requests := h'.requests.trans h.requests
  room := by
    have h1 := h.room
    have h2 := h'.room
    omega

/-- After an operation that adds nothing, what another adds. -/
theorem andThen (h : Keeps 0 s t) (h' : Keeps n t u) : Keeps n s u := by
  have h2 := h.trans h'
  rwa [Nat.zero_add] at h2

theorem mono (h : Keeps m s t) (hmn : m ≤ n) : Keeps n s t :=
  ⟨h.line, h.account, h.requests, h.room.trans (Nat.add_le_add_left hmn _)⟩

/-- An operation that leaves bays, device, policy, queues and waiting requests alone. -/
theorem of_frame (hb : t.bays = s.bays) (hd : t.device = s.device) (hp : t.policy = s.policy)
    (hq : t.requests = s.requests) (hr : t.replies = s.replies) (hw : t.waiters = s.waiters) (hrun : t.run = s.run) :
    Keeps 0 s t := by
  have hbay : ∀ b, t.bay b = s.bay b := fun b => by rw [State.bay, hb]; rfl
  refine ⟨fun b => ?_, fun b => ?_, by rw [hq], ?_⟩
  · rw [hbay, hd, hp]
    exact id
  · rw [hbay]
    exact id
  · simp only [occupied_eq, hbay, hq, hr, hw, hrun]
    omega

/-- An operation on the bays alone that keeps each record. -/
theorem of_bays (h : ∀ b, RecKeeps s.device s.policy (s.bay b) (t.bay b)) (ht : t = { s with bays := t.bays }) :
    Keeps 0 s t := by
  have hd : t.device = s.device := by rw [ht]
  have hp : t.policy = s.policy := by rw [ht]
  have hq : t.requests = s.requests := by rw [ht]
  have hr : t.replies = s.replies := by rw [ht]
  have hw : t.waiters = s.waiters := by rw [ht]
  have hrun : t.run = s.run := by rw [ht]
  refine ⟨fun b => ?_, fun b => (h b).account, by rw [hq], ?_⟩
  · rw [hd, hp]
    exact (h b).line
  · have hsum : (∑ b : Bay, (t.bay b).held) ≤ ∑ b : Bay, (s.bay b).held := Finset.sum_le_sum fun b _ => (h b).held
    simp only [occupied_eq, hq, hr, hw, hrun]
    omega

end Keeps

/-- An operation folded over a list keeps what each of its steps keeps. -/
theorem foldl_keeps {α : Type} {f : State → α → State} (h : ∀ s a, Keeps 0 s (f s a)) (l : List α) (s : State) :
    Keeps 0 s (l.foldl f s) := by
  induction l generalizing s with
  | nil => exact Keeps.refl s
  | cons a l ih => exact (h s a).andThen (ih _)

variable (s : State)

/-! ### Plain updates -/

theorem modBay_keeps (b : Bay) {f : BayRec → BayRec} (h : RecKeeps s.device s.policy (s.bay b) (f (s.bay b))) :
    Keeps 0 s (s.modBay b f) := by
  refine Keeps.of_bays (fun c => ?_) rfl
  by_cases hc : b = c
  · subst hc
    rwa [bay_modBay_same]
  · rw [bay_modBay, if_neg hc]
    exact RecKeeps.of_same rfl rfl

/-- A change of a bay's record that leaves its phase and its line alone. -/
theorem modBay_keeps_same (b : Bay) {f : BayRec → BayRec} (hp : (f (s.bay b)).phase = (s.bay b).phase)
    (hl : (f (s.bay b)).line = (s.bay b).line) : Keeps 0 s (s.modBay b f) :=
  modBay_keeps s b (RecKeeps.of_same hp hl)

theorem mapBays_keeps {f : Bay → BayRec → BayRec} (h : ∀ b, RecKeeps s.device s.policy (s.bay b) (f b (s.bay b))) :
    Keeps 0 s (s.mapBays f) := by
  refine Keeps.of_bays (fun b => ?_) rfl
  rw [bay_mapBays]
  exact h b

theorem modBinding_keeps (b : Bay) {f : Binding → Binding}
    (h : ∀ bd, (s.bay b).phase.binding? = some bd →
      (bd.Sound → (f bd).Sound) ∧ (f bd).commit.release = bd.commit.release) : Keeps 0 s (s.modBinding b f) :=
  modBay_keeps s b (RecKeeps.of_mapBinding _ h)

theorem modLane_keeps (l : Lane) (f : LaneRec → LaneRec) : Keeps 0 s (s.modLane l f) :=
  Keeps.of_frame rfl rfl rfl rfl rfl rfl rfl

theorem mapLanes_keeps (f : Lane → LaneRec → LaneRec) : Keeps 0 s (s.mapLanes f) :=
  Keeps.of_frame rfl rfl rfl rfl rfl rfl rfl

theorem modBayCfg_keeps (b : Bay) (f : BaySettings → BaySettings) : Keeps 0 s (s.modBayCfg b f) :=
  Keeps.of_frame rfl rfl rfl rfl rfl rfl rfl

theorem place_keeps (r : Reply) : Keeps 1 s (s.place r) := by
  refine ⟨fun _ => id, fun _ => id, le_rfl, ?_⟩
  simp only [occupied_eq, State.place, List.length_append, List.length_singleton]
  change _ + 1 + _ + (∑ b : Bay, (s.bay b).held) + _ + _ ≤ _
  omega

theorem reply_keeps (r : Request) (res : Result) (body : List Byte) : Keeps 1 s (s.reply r res body) := place_keeps s _

theorem latch_keeps (site : Site) (k : Kind) : Keeps 0 s (s.latch site k) := by
  rw [latch_frame]
  exact Keeps.of_frame rfl rfl rfl rfl rfl rfl rfl

theorem setTable_keeps (t : List Entry) : Keeps 0 s (s.setTable t) := by
  rw [setTable_frame]
  exact Keeps.of_frame rfl rfl rfl rfl rfl rfl rfl

theorem flushTable_keeps (t : List Entry) : Keeps 0 s (s.flushTable t) := by
  rw [flushTable_frame]
  exact Keeps.of_frame rfl rfl rfl rfl rfl rfl rfl

theorem settingsChanged_keeps : Keeps 0 s s.settingsChanged := by
  rw [settingsChanged_frame]
  exact Keeps.of_frame rfl rfl rfl rfl rfl rfl rfl

/-! ### Levels and permits -/

/-- The record that an evaluation leaves at its bay. -/
theorem evaluate_recKeeps {r : BayRec} (b : Bay) (h : (s.bay b).phase = r.phase) :
    RecKeeps s.device s.policy r { r with line := r.line.evaluate (s.target b) } := by
  refine ⟨fun _ => lineOk_evaluate (by rw [State.target, h]), ?_, ?_⟩
  · exact (RecKeeps.of_same (d := s.device) (p := s.policy) (r := r) (r' := { r with line := r.line }) rfl rfl).account
  · exact le_rfl

theorem evalLine_keeps (b : Bay) : Keeps 0 s (s.evalLine b) := modBay_keeps s b (evaluate_recKeeps s b rfl)

theorem evalLine_target (b : Bay) (f : BayRec → BayRec) :
    (s.modBay b f).target b =
      if s.device == .running then (f (s.bay b)).phase.target s.policy else .inhibit := by
  rw [State.target, bay_modBay_same]
  rfl

/-- A change of a bay's record that is followed by an evaluation of its line: the line needs nothing, the account and the
reservation of the new record are enough. -/
theorem modBay_evalLine_keeps (b : Bay) {f : BayRec → BayRec} (ha : (s.bay b).AccountOk → (f (s.bay b)).AccountOk)
    (hh : (f (s.bay b)).held ≤ (s.bay b).held) : Keeps 0 s ((s.modBay b f).evalLine b) := by
  have hmod : (s.modBay b f).evalLine b =
      s.modBay b fun r => { f r with line := (f r).line.evaluate ((s.modBay b f).target b) } := by
    unfold State.evalLine State.modBay
    congr 1
    apply Vector.ext
    intro i hi
    by_cases hb : b = ⟨i, hi⟩
    · subst hb
      simp [put, State.bay]
    · have hne : b.val ≠ i := fun e => hb (Fin.ext e)
      simp [put, hne]
  rw [hmod]
  refine modBay_keeps s b ⟨fun _ => lineOk_evaluate (evalLine_target s b f), ha, hh⟩

/-- A bay takes a phase without a binding (R21). -/
theorem setPhase_keeps (b : Bay) {p : Phase} (h : p.binding? = none) : Keeps 0 s (s.setPhase b p) :=
  modBay_evalLine_keeps s b (fun _ => AccountOk.of_unbound h) (by rw [held_of_unbound h]; exact Nat.zero_le _)

theorem latchInk_keeps (b : Bay) (x y : InkState) : Keeps 0 s (s.latchInk b x y) := by
  rw [latchInk_frame]
  exact Keeps.of_frame rfl rfl rfl rfl rfl rfl rfl

theorem setInk_sound {bd : Binding} (i : InkState) (h : bd.Sound) : (bd.setInk i).Sound := h

theorem computeInk_keeps (b : Bay) : Keeps 0 s (s.computeInk b) := by
  unfold State.computeInk
  split
  · exact Keeps.refl s
  · exact (modBinding_keeps s b fun bd _ => ⟨setInk_sound _, rfl⟩).andThen
      ((latchInk_keeps _ _ _ _).andThen (evalLine_keeps _ _))

/-! ### Surveys -/

theorem placeLong_keeps (r : Bool) (ticket : Byte) (k : ReqKind) (res : Result) (body : List Byte) :
    Keeps (if r then 1 else 0) s (s.placeLong r ticket k res body) := by
  cases r
  · exact Keeps.refl s
  · exact place_keeps s _

/-- The run's record changes, and still holds its reservation at most as before. -/
theorem setRun_keeps {x : Option SurveyRun} (h : runHeld x ≤ runHeld s.run) : Keeps 0 s { s with run := x } := by
  refine ⟨fun _ => id, fun _ => id, le_rfl, ?_⟩
  simp only [occupied_eq]
  change _ + _ + (∑ b : Bay, (s.bay b).held) + _ + runHeld x ≤ _
  omega

/-- A run that is gone leaves the room its reservation held. -/
theorem clearRun_room {r : SurveyRun} (h : s.run = some r) :
    ({ s with run := none } : State).occupied + (if r.reserved then 1 else 0) = s.occupied := by
  simp only [occupied_eq, h, runHeld]
  change _ + _ + (∑ b : Bay, (s.bay b).held) + _ + _ + _ = _
  omega

theorem endRun_keeps : Keeps 0 s s.endRun := by
  unfold State.endRun
  split
  · exact Keeps.refl s
  · next r hr =>
    have hplace := placeLong_keeps { s with run := none } r.reserved r.ticket .surveyRun .ok r.body
    have hroom := clearRun_room s hr
    exact ⟨hplace.line, hplace.account, hplace.requests, by have h := hplace.room; omega⟩

theorem startPass_keeps {r : SurveyRun} (h : s.run = some r) : Keeps 0 s (s.startPass r) :=
  (mapBays_keeps s fun _ => RecKeeps.of_same rfl rfl).andThen (setRun_keeps _ (by rw [mapBays_run, h]; exact le_rfl))

theorem startPasses_keeps (n : Nat) : Keeps 0 s (State.startPasses n s) := by
  induction n generalizing s with
  | zero => exact endRun_keeps s
  | succ n ih =>
    unfold State.startPasses
    split
    · exact Keeps.refl s
    · next r hr =>
      have hstart := startPass_keeps s hr
      dsimp only
      split
      · exact hstart
      · split
        · exact hstart
        · exact hstart.andThen (ih _)

theorem passCheck_keeps : Keeps 0 s s.passCheck := by
  unfold State.passCheck
  split
  · exact Keeps.refl s
  · split
    · exact Keeps.refl s
    · exact startPasses_keeps s _

theorem discardConversion_keeps (b : Bay) : Keeps 0 s (s.discardConversion b) := by
  rw [discardConversion_frame]
  exact Keeps.of_frame rfl rfl rfl rfl rfl rfl rfl

theorem skipMember_reserved (r : SurveyRun) (b : Bay) : (r.skipMember b).reserved = r.reserved := by
  unfold SurveyRun.skipMember
  split <;> rfl

theorem drop_reserved (r : SurveyRun) (b : Bay) : (r.drop b).reserved = r.reserved := by
  unfold SurveyRun.drop
  split <;> rfl

theorem leftActive_keeps (b : Bay) (removed : Bool) : Keeps 0 s (s.leftActive b removed) := by
  have hcleared := (modBay_keeps_same s b
    (f := fun r => { r with wanted := false, surveyTimer := none, due := none }) rfl rfl).andThen
      (discardConversion_keeps _ b)
  unfold State.leftActive
  dsimp only
  split
  · exact hcleared
  · next r hr =>
    refine hcleared.andThen ((setRun_keeps _ ?_).andThen (passCheck_keeps _))
    rw [hr]
    simp only [runHeld, skipMember_reserved, apply_ite SurveyRun.reserved, drop_reserved, ite_self]
    exact le_rfl

/-! ### Commits (R104 to R116) -/

theorem shadowIfSaving_keeps (b : Bay) : Keeps 0 s (s.shadowIfSaving b) := by
  rw [shadowIfSaving_frame]
  exact Keeps.of_frame rfl rfl rfl rfl rfl rfl rfl

theorem changeCommit_keeps (b : Bay) {f : Binding → Binding}
    (h : ∀ bd, (s.bay b).phase.binding? = some bd →
      (bd.Sound → (f bd).Sound) ∧ (f bd).commit.release = bd.commit.release) : Keeps 0 s (s.changeCommit b f) :=
  (modBinding_keeps s b h).andThen (shadowIfSaving_keeps _ b)

theorem raiseHigh_keeps (b : Bay) (c : Nat) : Keeps 0 s (s.raiseHigh b c) := setTable_keeps s _

theorem addEvidence_keeps (b : Bay) (k : EvidenceKind) : Keeps 0 s (s.addEvidence b k) := by
  unfold State.addEvidence
  split
  · exact Keeps.refl s
  · have hjoin := modBinding_keeps s b (f := fun bd => { bd with evidence := bd.evidence ++ [k] })
      fun bd _ => ⟨id, rfl⟩
    split
    · exact Keeps.refl s
    · dsimp only
      split
      · exact hjoin.andThen ((flushTable_keeps _ _).andThen ((latch_keeps _ _ _).andThen (evalLine_keeps _ _)))
      · exact hjoin

theorem checkCounter_keeps (b : Bay) (c : Nat) : Keeps 0 s (s.checkCounter b c) := by
  unfold State.checkCounter
  split
  · exact Keeps.refl s
  · split
    · exact addEvidence_keeps s _ _
    · exact raiseHigh_keeps s _ _

/-- With no flight, a commit state without a target is sound too. -/
theorem sound_untargeted {bd bd' : Binding} (ha : bd'.acct = bd.acct) (hd : bd'.draw = bd.draw)
    (h : bd.commit.state.target? = none) (hs : bd.Sound) : bd'.Sound := by
  obtain ⟨hbal, hflight⟩ := hs
  refine ⟨?_, fun _ => by rw [ha]; exact hflight h⟩
  unfold Binding.Balanced
  rw [ha, hd]
  exact hbal

/-- A commit state with a target is always sound. -/
theorem sound_targeted {bd bd' : Binding} (ha : bd'.acct = bd.acct) (hd : bd'.draw = bd.draw)
    (h : bd'.commit.state.target? ≠ none) (hs : bd.Sound) : bd'.Sound := by
  refine ⟨?_, fun hn => absurd hn h⟩
  unfold Binding.Balanced
  rw [ha, hd]
  exact hs.1

/-- The binding of an ACTIVE bay is its only one. -/
theorem active_binding {p : Phase} {bd bd' : Binding} (ha : p.active? = some bd) (hb : p.binding? = some bd') :
    bd' = bd := by
  cases p <;> simp_all [Phase.active?, Phase.binding?]

theorem evalTriggers_keeps (b : Bay) (n : Nat) : Keeps 0 s (s.evalTriggers b n) := by
  unfold State.evalTriggers
  split
  · exact Keeps.refl s
  · next bd hbd =>
    split
    · next hfires =>
      refine (modBay_keeps_same s b rfl rfl).andThen (changeCommit_keeps _ b fun x hx => ⟨?_, rfl⟩)
      rw [bay_modBay_same] at hx
      obtain rfl := active_binding hbd hx
      have hidle : x.commit.state = .idle := by simp at hfires; exact hfires.1.1
      exact sound_untargeted rfl rfl (by rw [hidle]; rfl)
    · exact Keeps.refl s

theorem evalStep_keeps (b : Bay) : Keeps 0 s (s.evalStep b) := evalTriggers_keeps s _ _

theorem evalForSave_keeps : Keeps 0 s s.evalForSave := foldl_keeps (fun s b => evalTriggers_keeps s b 1) _ _

theorem handOn_keeps (b : Bay) : Keeps 0 s (s.handOn b) := (computeInk_keeps s b).andThen (evalStep_keeps _ b)

theorem shadowAll_keeps : Keeps 0 s s.shadowAll := foldl_keeps (fun s _ => setTable_keeps s _) _ _

end Sys2Proof.Machine

/-! The relation `Keeps` for releases, unbinding, binding, lanes, the converter and the metering requests. -/

namespace Sys2Proof.Machine

variable (s : State)

/-! ### Reservations spent on replies (R171, R173) -/

/-- A bay's new record changes the room by what it holds. -/
theorem modBay_occupied (b : Bay) (f : BayRec → BayRec) :
    (s.modBay b f).occupied + (s.bay b).held = s.occupied + (f (s.bay b)).held := by
  have hsum : (∑ c : Bay, ((s.modBay b f).bay c).held) + (s.bay b).held =
      (∑ c : Bay, (s.bay c).held) + (f (s.bay b)).held := by
    rw [← Finset.add_sum_erase _ _ (Finset.mem_univ b), ← Finset.add_sum_erase (a := b) _ (fun c => (s.bay c).held)
      (Finset.mem_univ b), bay_modBay_same]
    have hrest : ∑ c ∈ Finset.univ.erase b, ((s.modBay b f).bay c).held =
        ∑ c ∈ Finset.univ.erase b, (s.bay c).held :=
      Finset.sum_congr rfl fun c hc => by rw [bay_modBay_other _ (Finset.ne_of_mem_erase hc)]
    omega
  simp only [occupied_eq, modBay_replies, modBay_requests, modBay_waiters, modBay_run]
  omega

/-- A reply placed in room that has been freed. -/
theorem Keeps.placeLong_freed {s t : State} (h : Keeps 0 s t) {r : Bool}
    (hroom : t.occupied + (if r then 1 else 0) ≤ s.occupied) (ticket : Byte) (k : ReqKind) (res : Result)
    (body : List Byte) : Keeps 0 s (t.placeLong r ticket k res body) := by
  have hplace := h.trans (placeLong_keeps t r ticket k res body)
  refine ⟨hplace.line, hplace.account, hplace.requests, ?_⟩
  have := (placeLong_keeps t r ticket k res body).room
  omega

/-- A reply does not touch the bays: it can be placed before or after an evaluation. -/
theorem placeLong_evalLine (r : Bool) (ticket : Byte) (k : ReqKind) (res : Result) (body : List Byte) (b : Bay) :
    (s.placeLong r ticket k res body).evalLine b = (s.evalLine b).placeLong r ticket k res body := by
  cases r <;> rfl

/-- A record without a binding frees what the bound bay's release held. -/
theorem modBay_frees {b : Bay} {f : BayRec → BayRec} {bd : Binding} (hb : (s.bay b).phase.binding? = some bd)
    (hf : (f (s.bay b)).held = 0) {rel : Release} (hrel : bd.commit.release = some rel) :
    (s.modBay b f).occupied + (if rel.reserved then 1 else 0) ≤ s.occupied := by
  have h := modBay_occupied s b f
  rw [held_of_bound hb, hrel, hf] at h
  exact h.le

theorem active_is_bound {p : Phase} {bd : Binding} (h : p.active? = some bd) : p.binding? = some bd := by
  cases p <;> simp_all [Phase.active?, Phase.binding?]

theorem active_eq {p : Phase} {bd : Binding} (h : p.active? = some bd) : p = .active bd := by
  cases p <;> simp_all [Phase.active?]

/-! ### Releases (R114 to R116) -/

/-- A released binding is as sound as it was, its fine written off (R77). -/
theorem toReleased_sound {bd : Binding} (t : Thresholds) (h : bd.Sound) : (bd.toReleased t).Sound := by
  obtain ⟨⟨hinflight, hfine, hmax, hbal⟩, hflight⟩ := h
  refine ⟨⟨hinflight, by show 0 < tuInFl; decide, hmax, fun hc => ?_⟩, hflight⟩
  have hbal := hbal hc
  show tuInFl * (bd.acct.charged + bd.acct.pending) + 0 + (bd.acct.credited + bd.acct.fine) =
    tuInFl * bd.acct.carried + bd.draw.drawn
  omega

theorem completeRelease_keeps (b : Bay) {rel : Release} (res : Result)
    (h : ∀ bd, (s.bay b).phase.active? = some bd → bd.commit.release = some rel) :
    Keeps 0 s (s.completeRelease b rel res) := by
  unfold State.completeRelease
  split
  · exact Keeps.refl s
  · next bd hbd =>
    have hbound := active_is_bound hbd
    dsimp only
    let g : BayRec → BayRec := fun r =>
      { r with
        phase := .released (bd.toReleased ((s.bay b).staged.getD (s.bay b).thresholds)), slot := none
        thresholds := (s.bay b).staged.getD (s.bay b).thresholds, staged := none }
    have hmoved : Keeps 0 s ((s.modBay b g).evalLine b) := by
      refine modBay_evalLine_keeps s b (fun ha bd' hb' => ?_) (Nat.zero_le _)
      obtain rfl : bd.toReleased _ = bd' := Option.some.inj hb'
      exact toReleased_sound _ (ha bd hbound)
    have hleft := leftActive_keeps ((s.modBay b g).evalLine b) b false
    refine (hmoved.andThen hleft).placeLong_freed ?_ _ _ _ _
    have hfree := modBay_frees s (f := g) hbound rfl (h bd hbd)
    have heval := (evalLine_keeps (s.modBay b g) b).room
    have hroom := hleft.room
    omega

/-- A change of the commit state to one without a target needs one without a target before. -/
theorem setCommit_keeps (b : Bay) {c : CommitState}
    (h : ∀ bd, (s.bay b).phase.binding? = some bd → bd.commit.state.target? = none ∨ c.target? ≠ none) :
    Keeps 0 s (s.changeCommit b fun bd => bd.setCommit c) := by
  refine changeCommit_keeps s b fun bd hbd => ⟨?_, rfl⟩
  obtain hfrom | hto := h bd hbd
  · exact sound_untargeted rfl rfl hfrom
  · exact sound_targeted rfl rfl hto

theorem placeFinal_keeps (b : Bay)
    (h : ∀ bd, (s.bay b).phase.binding? = some bd → bd.commit.state.target? = none) : Keeps 0 s (s.placeFinal b) := by
  have hslot := modBay_keeps_same s b (f := fun r => { r with slot := some .final }) rfl rfl
  refine hslot.andThen (setCommit_keeps _ b fun bd hbd => .inl (h bd ?_))
  rwa [bay_modBay_same] at hbd

theorem afterIdle_keeps (b : Bay) (fin : Bool)
    (h : ∀ bd, (s.bay b).phase.binding? = some bd → bd.commit.state.target? = none) : Keeps 0 s (s.afterIdle b fin) := by
  unfold State.afterIdle
  split
  · exact Keeps.refl s
  · next bd hbd =>
    split
    · next rel hrel =>
      split
      · refine completeRelease_keeps s b _ fun bd' hbd' => ?_
        rw [hbd, Option.some.injEq] at hbd'
        rw [← hbd', hrel]
      · exact placeFinal_keeps s b h
    · exact evalStep_keeps s b

theorem afterHalt_keeps (b : Bay) : Keeps 0 s (s.afterHalt b) := by
  unfold State.afterHalt
  split
  · exact Keeps.refl s
  · next bd hbd =>
    split
    · next rel hrel =>
      refine completeRelease_keeps s b _ fun bd' hbd' => ?_
      rw [hbd, Option.some.injEq] at hbd'
      rw [← hbd', hrel]
    · exact Keeps.refl s

/-! ### Launch and outcomes (R104 to R110) -/

theorem launch_keeps (b : Bay) (fin : Bool) : Keeps 0 s (s.launch b fin) := by
  refine changeCommit_keeps s b fun bd _ => ⟨fun h => ?_, rfl⟩
  obtain ⟨⟨hinflight, hfine, hmax, hbal⟩, hflight⟩ := h
  exact ⟨⟨le_rfl, hfine, hmax, hbal⟩, fun hn => absurd hn (by simp [CommitState.target?])⟩

/-- Cutting pending to the room left keeps an account in range (R86). -/
theorem complete_sound {bd : Binding} {c : Nat} (hc : c ≤ maxTu) (h : bd.Sound) :
    ({ bd.setCommit .idle with acct := bd.acct.complete c } : Binding).Sound := by
  obtain ⟨⟨hinflight, hfine, hmax, hbal⟩, hflight⟩ := h
  refine ⟨?_, fun _ => (complete_committed bd.acct c).2⟩
  unfold Binding.Balanced
  dsimp only [Binding.setCommit, Account.complete, Account.cut]
  split
  · next hover =>
    refine ⟨Nat.zero_le _, by show 0 < tuInFl; decide, ?_, fun hn => absurd hn (by simp)⟩
    dsimp only
    omega
  · next hfits =>
    refine ⟨Nat.zero_le _, hfine, not_lt.mp hfits, fun hn => ?_⟩
    have hbal := hbal hn
    rw [← hbal]
    have hsum : bd.acct.charged + bd.acct.inflight + (bd.acct.pending - bd.acct.inflight) =
        bd.acct.charged + bd.acct.pending := by omega
    dsimp only
    rw [hsum]

/-- The bindings after a change of the commit record are the changed ones. -/
theorem changeCommit_bay (b c : Bay) (f : Binding → Binding) : (s.changeCommit b f).bay c = (s.modBinding b f).bay c := by
  rw [changeCommit_frame]
  rfl

theorem modBinding_binding (b : Bay) (f : Binding → Binding) :
    ((s.modBinding b f).bay b).phase.binding? = (s.bay b).phase.binding?.map f := by
  unfold State.modBinding
  rw [bay_modBay_same, binding_mapBinding]

theorem changeCommit_binding (b : Bay) (f : Binding → Binding) :
    ((s.changeCommit b f).bay b).phase.binding? = (s.bay b).phase.binding?.map f := by
  rw [changeCommit_bay, modBinding_binding]

/-- A computation of the ink state rewrites the binding of its ACTIVE bay alone (R124). -/
theorem computeInk_binding (b c : Bay) :
    ((s.computeInk b).bay c).phase.binding? = (s.bay c).phase.binding? ∨
      ∃ i, ((s.computeInk b).bay c).phase.binding? = (s.bay c).phase.binding?.map (·.setInk i) := by
  unfold State.computeInk
  split
  · exact .inl rfl
  · next bd _ =>
    dsimp only
    have hbay : ∀ (t : State) (d : Bay), ((t.evalLine b).bay d).phase = (t.bay d).phase := fun t d => by
      unfold State.evalLine
      rw [bay_modBay]
      split
      · next h => rw [h]
      · rfl
    rw [hbay, latchInk_frame]
    by_cases hc : b = c
    · subst hc
      exact .inr ⟨_, modBinding_binding s b _⟩
    · left
      show ((s.modBinding b _).bay c).phase.binding? = _
      unfold State.modBinding
      rw [bay_modBay, if_neg hc]

/-- Computing the ink state leaves the commit state as it is. -/
theorem computeInk_untargeted {b : Bay}
    (h : ∀ bd, (s.bay b).phase.binding? = some bd → bd.commit.state.target? = none) :
    ∀ bd, ((s.computeInk b).bay b).phase.binding? = some bd → bd.commit.state.target? = none := by
  intro bd hbd
  obtain heq | ⟨i, heq⟩ := computeInk_binding s b b
  · exact h bd (heq ▸ hbd)
  · rw [heq] at hbd
    obtain ⟨x, hx, rfl⟩ := Option.map_eq_some_iff.mp hbd
    exact h x hx

/-- After a change of the commit record to a state without a target there is none. -/
theorem changeCommit_untargeted (b : Bay) {f : Binding → Binding} (hf : ∀ bd, (f bd).commit.state.target? = none) :
    ∀ bd, ((s.changeCommit b f).bay b).phase.binding? = some bd → bd.commit.state.target? = none := by
  intro bd hbd
  rw [changeCommit_binding] at hbd
  obtain ⟨x, _, rfl⟩ := Option.map_eq_some_iff.mp hbd
  exact hf x

theorem commitComplete_keeps (b : Bay) {c : Nat} (hc : c ≤ maxTu) (fin : Bool) :
    Keeps 0 s (s.commitComplete b c fin) :=
  (changeCommit_keeps s b fun _ _ => ⟨complete_sound hc, rfl⟩).andThen
    ((computeInk_keeps _ b).andThen
      (afterIdle_keeps _ b fin (computeInk_untargeted _ (changeCommit_untargeted s b fun _ => rfl))))

/-- A flight that has ended leaves a sound account. -/
theorem endFlight_sound {bd : Binding} (c : CommitState) (h : bd.Sound) : (bd.endFlight c).Sound := by
  obtain ⟨⟨hinflight, hfine, hmax, hbal⟩, hflight⟩ := h
  exact ⟨⟨Nat.zero_le _, hfine, hmax, hbal⟩, fun _ => rfl⟩

theorem endFlight_keeps (b : Bay) (c : CommitState) : Keeps 0 s (s.changeCommit b fun bd => bd.endFlight c) :=
  changeCommit_keeps s b fun _ _ => ⟨endFlight_sound c, rfl⟩

theorem stopCommits_keeps (b : Bay) (k : EvidenceKind) : Keeps 0 s (s.stopCommits b k) :=
  (addEvidence_keeps s b k).andThen
    ((endFlight_keeps _ b _).andThen
      ((latch_keeps _ _ _).andThen ((computeInk_keeps _ b).andThen (afterHalt_keeps _ b))))

theorem flightUnknown_keeps (b : Bay) : Keeps 0 s (s.flightUnknown b) := by
  unfold State.flightUnknown
  split
  · exact Keeps.refl s
  · split
    · exact Keeps.refl s
    · exact (setCommit_keeps s b fun _ _ => .inr (by simp [CommitState.target?])).andThen
        ((latch_keeps _ _ _).andThen (afterHalt_keeps _ b))

theorem lostAdvance_keeps (b : Bay) : Keeps 0 s (s.lostAdvance b) := by
  unfold State.lostAdvance
  split
  · exact Keeps.refl s
  · split <;> try exact Keeps.refl s
    exact (modBay_keeps_same s b (f := fun r => { r with slot := some .reconcile }) rfl rfl).andThen
      (setCommit_keeps _ b fun _ _ => .inr (by simp [CommitState.target?]))

theorem advanceCounter_keeps (b : Bay) {c : Nat} (hc : c ≤ maxTu) : Keeps 0 s (s.advanceCounter b c) := by
  unfold State.advanceCounter
  split
  · exact Keeps.refl s
  · split <;> try exact Keeps.refl s
    dsimp only
    split
    · exact (raiseHigh_keeps s b c).andThen (commitComplete_keeps _ b hc _)
    · split <;> exact (raiseHigh_keeps s b c).andThen (stopCommits_keeps _ b _)

theorem reconcileCounter_keeps (b : Bay) {c : Nat} (hc : c ≤ maxTu) : Keeps 0 s (s.reconcileCounter b c) := by
  unfold State.reconcileCounter
  split
  · exact Keeps.refl s
  · split <;> try exact Keeps.refl s
    dsimp only
    split
    · exact (checkCounter_keeps s b c).andThen (commitComplete_keeps _ b hc _)
    · exact (checkCounter_keeps s b c).andThen
        ((endFlight_keeps _ b _).andThen
          ((computeInk_keeps _ b).andThen
            (afterIdle_keeps _ b false (computeInk_untargeted _ (changeCommit_untargeted _ b fun _ => rfl)))))

theorem withdraw_keeps (b : Bay) : Keeps 0 s (s.withdraw b) := by
  unfold State.withdraw
  split
  · exact Keeps.refl s
  · next bd hbd =>
    split
    · next hqueued =>
      have hidle : Keeps 0 s ((s.modBay b fun r => { r with slot := none }).changeCommit b fun x => x.setCommit .idle) := by
        have hslot := modBay_keeps_same s b (f := fun r => { r with slot := none }) rfl rfl
        refine hslot.andThen (setCommit_keeps _ b fun x hx => .inl ?_)
        rw [bay_modBay_same] at hx
        obtain rfl := active_binding hbd hx
        have hq : x.commit.state = .queued := by simp at hqueued; exact hqueued.1
        rw [hq]
        rfl
      dsimp only
      split
      · next rel hrel =>
        refine hidle.andThen (completeRelease_keeps _ b _ fun x hx => ?_)
        have hx' := active_is_bound hx
        rw [changeCommit_binding, bay_modBay_same] at hx'
        obtain ⟨y, hy, rfl⟩ := Option.map_eq_some_iff.mp hx'
        obtain rfl := active_binding hbd hy
        exact hrel
      · exact hidle
    · exact Keeps.refl s

/-! ### Leaving a binding (R58, R59) -/

theorem abandon_keeps (b : Bay) : Keeps 0 s (s.abandon b) :=
  (modBay_keeps_same s b rfl rfl).andThen (modLane_keeps _ _ _)

theorem unbind_keeps (b : Bay) {next : Phase} (hn : next.binding? = none) (removed : Bool) :
    Keeps 0 s (s.unbind b next removed) := by
  unfold State.unbind
  split
  · exact Keeps.refl s
  · next bd hbd =>
    dsimp only
    let g : BayRec → BayRec := fun r =>
      { r with phase := next, thresholds := r.staged.getD r.thresholds, staged := none, counter := 0 }
    have hwrite := flushTable_keeps s (s.withEntry b fun e => { bd.shadow e with bay := none })
    have hsame : (s.flushTable (s.withEntry b fun e => { bd.shadow e with bay := none })).bay b = s.bay b := by
      rw [flushTable_frame]
      rfl
    generalize s.flushTable (s.withEntry b fun e => { bd.shadow e with bay := none }) = w at hwrite hsame ⊢
    have hclosed : Keeps 0 w ((w.modBay b g).evalLine b) :=
      modBay_evalLine_keeps w b (fun _ => AccountOk.of_unbound hn) (by rw [held_of_unbound hn]; exact Nat.zero_le _)
    have hanswered : Keeps 0 s (((match bd.commit.release with
        | some rel => (w.modBay b g).placeLong rel.reserved rel.ticket .bayRelease .bayState []
        | none => w.modBay b g) : State).evalLine b) := by
      split
      · next rel hrel =>
        rw [placeLong_evalLine]
        refine hwrite.andThen (hclosed.placeLong_freed ?_ _ _ _ _)
        have hfree := modBay_frees w (f := g) (b := b) (by rw [hsame]; exact hbd) (held_of_unbound hn) hrel
        have heval := (evalLine_keeps (w.modBay b g) b).room
        omega
      · exact hwrite.andThen hclosed
    split
    · exact hanswered.andThen (leftActive_keeps _ _ _)
    · exact hanswered

theorem enterRejected_keeps (b : Bay) (reason : RejectReason) : Keeps 0 s (s.enterRejected b reason) :=
  (setPhase_keeps s b rfl).andThen (latch_keeps _ _ _)

theorem badResponse_keeps (b : Bay) : Keeps 0 s (s.badResponse b) :=
  (unbind_keeps s b rfl false).andThen (latch_keeps _ _ _)

theorem leavePhase_keeps (b : Bay) {next : Phase} (hn : next.binding? = none) (removed : Bool) :
    Keeps 0 s (s.leavePhase b next removed) := by
  unfold State.leavePhase
  split
  · exact unbind_keeps s b hn removed
  · exact setPhase_keeps s b hn

/-! ### Binding (R51 to R55) -/

/-- A binding that opens is sound: what is owed is cut to the room left (R52, R53). -/
theorem openBinding_sound (e : Entry) (rec' : TagRecord) (k : KeySlot) {c0 : Nat} (hc : c0 ≤ maxTu) :
    (openBinding e rec' k c0).Sound := by
  have hsettle : settle e c0 ≤ maxTu - c0 := Nat.min_le_right _ _
  refine ⟨⟨Nat.zero_le _, by show 0 < tuInFl; decide, ?_, fun _ => ?_⟩, fun _ => rfl⟩
  · show c0 + settle e c0 ≤ maxTu
    omega
  · show tuInFl * (0 + settle e c0) + 0 + 0 = tuInFl * settle e c0 + 0
    rw [Nat.zero_add]

theorem bind_keeps (b : Bay) (rec' : TagRecord) (k : KeySlot) {c0 : Nat} (hc : c0 ≤ maxTu) :
    Keeps 0 s (s.bind b rec' k c0) := by
  unfold State.bind
  dsimp only
  have hopened : ∀ f : BayRec → BayRec,
      (f (s.bay b)).phase = .active (openBinding (frontEntry s.table rec' c0).1 rec' k c0) →
      (f (s.bay b)).line = (s.bay b).line → Keeps 0 s (s.modBay b f) := by
    intro f hp hl
    refine modBay_keeps s b ⟨fun h ha => ?_, fun _ bd hbd => ?_, ?_⟩
    · rw [hl] at ha
      exact ⟨(h ha).1, .inl ⟨_, hp⟩⟩
    · rw [hp] at hbd
      obtain rfl := Option.some.inj hbd
      exact openBinding_sound _ _ _ hc
    · rw [held_of_bound (bd := openBinding (frontEntry s.table rec' c0).1 rec' k c0) (by rw [hp]; rfl)]
      exact Nat.zero_le _
  split
  · exact (hopened _ rfl rfl).andThen ((flushTable_keeps _ _).andThen ((computeInk_keeps _ _).andThen
      ((latch_keeps _ _ _).andThen ((latch_keeps _ _ _).andThen (evalStep_keeps _ _)))))
  · exact (hopened _ rfl rfl).andThen ((flushTable_keeps _ _).andThen ((computeInk_keeps _ _).andThen
      ((latch_keeps _ _ _).andThen (evalStep_keeps _ _))))

theorem identified_keeps (b : Bay) (rec' : TagRecord) {c0 : Nat} (hc : c0 ≤ maxTu) :
    Keeps 0 s (s.identified b rec' c0) := by
  unfold State.identified
  split
  · exact enterRejected_keeps s _ _
  · split
    · exact (enterRejected_keeps s _ _).andThen ((flushTable_keeps _ _).andThen (latch_keeps _ _ _))
    · split
      · exact bind_keeps s _ _ _ hc
      · exact enterRejected_keeps s _ _

/-! ### Lanes (chapter 2) -/

theorem onLane_keeps (l : Lane) (r : Running) : Keeps 0 s (s.onLane l r) := modLane_keeps s _ _

theorem sendReadRecord_keeps (l : Lane) (r : Running) (n : Nat) : Keeps 0 s (s.sendReadRecord l r n) :=
  onLane_keeps s _ _

theorem sendChallenge_keeps (l : Lane) (r : Running) (n : Nat) : Keeps 0 s (s.sendChallenge l r n) :=
  Keeps.of_frame rfl rfl rfl rfl rfl rfl rfl

theorem sendAdvance_keeps (l : Lane) (r : Running) (nonce : Key) : Keeps 0 s (s.sendAdvance l r nonce) :=
  onLane_keeps s _ _

theorem tellOwner_keeps (b : Bay) (op : OpKind) : Keeps 0 s (s.tellOwner b op) := by
  cases op with
  | identify =>
    unfold State.tellOwner
    dsimp only
    split
    · exact setPhase_keeps s b rfl
    · exact Keeps.refl s
  | commit => exact launch_keeps s _ _
  | reconcile => exact Keeps.refl s
  | final => exact launch_keeps s _ _

theorem startOp_keeps (l : Lane) (p : Position) (op : OpKind) : Keeps 0 s (s.startOp l p op) := by
  unfold State.startOp
  dsimp only
  have htaken := (modBay_keeps_same s (bayAt l p) (f := fun x => { x with slot := none }) rfl rfl)
  split
  · exact htaken.andThen ((modLane_keeps _ _ _).andThen
      ((tellOwner_keeps _ _ _).andThen (sendReadRecord_keeps _ _ _ _)))
  · exact htaken.andThen ((modLane_keeps _ _ _).andThen
      ((tellOwner_keeps _ _ _).andThen (sendChallenge_keeps _ _ _ _)))

theorem arbitrate_keeps (l : Lane) : Keeps 0 s (s.arbitrate l) := by
  unfold State.arbitrate
  split
  · exact Keeps.refl s
  · split
    · exact startOp_keeps s _ _ _
    · exact Keeps.refl s

theorem arbitrateAll_keeps : Keeps 0 s s.arbitrateAll := foldl_keeps arbitrate_keeps _ _

theorem freeLane_keeps (l : Lane) : Keeps 0 s (s.freeLane l) := (modLane_keeps s _ _).andThen (arbitrate_keeps _ _)

theorem endOperation_keeps (l : Lane) {owner : State → State} (h : ∀ t, Keeps 0 t (owner t)) :
    Keeps 0 s (s.endOperation l owner) :=
  (modLane_keeps s _ _).andThen ((h _).andThen (freeLane_keeps _ _))

theorem failIdentify_keeps (l : Lane) (b : Bay) (reason : RejectReason) : Keeps 0 s (s.failIdentify l b reason) :=
  endOperation_keeps s l fun t => enterRejected_keeps t _ _

theorem recordReply_keeps (l : Lane) (r : Running) (bytes : List Byte) : Keeps 0 s (s.recordReply l r bytes) := by
  unfold State.recordReply
  dsimp only
  split
  · split
    · exact failIdentify_keeps s _ _ _
    · exact sendChallenge_keeps s _ _ _
  · split
    · exact sendReadRecord_keeps s _ _ _
    · exact failIdentify_keeps s _ _ _

theorem challengeCounter_keeps (l : Lane) (r : Running) {c : Nat} (hc : c ≤ maxTu) :
    Keeps 0 s (s.challengeCounter l r c) := by
  unfold State.challengeCounter
  dsimp only
  split
  · split
    · exact endOperation_keeps s l fun t => identified_keeps t _ _ hc
    · exact Keeps.refl s
  · exact (checkCounter_keeps s _ _).andThen (sendAdvance_keeps _ _ _ _)
  · exact (checkCounter_keeps s _ _).andThen (sendAdvance_keeps _ _ _ _)
  · exact endOperation_keeps s l fun t => reconcileCounter_keeps t _ hc

theorem challengeMismatch_keeps (l : Lane) (r : Running) : Keeps 0 s (s.challengeMismatch l r) := by
  unfold State.challengeMismatch
  dsimp only
  split
  · exact failIdentify_keeps s _ _ _
  all_goals exact endOperation_keeps s l fun t => badResponse_keeps t _

theorem challengeNone_keeps (l : Lane) (r : Running) : Keeps 0 s (s.challengeNone l r) := by
  unfold State.challengeNone
  dsimp only
  split
  · exact failIdentify_keeps s _ _ _
  all_goals exact endOperation_keeps s l fun t => flightUnknown_keeps t _

/-- A tag's counter has 24 bits (R3, R183). -/
theorem replyCounter_le (bytes : List Byte) : replyCounter bytes ≤ maxTu := by
  have h := field_lt bytes 1 3
  show field bytes 1 3 ≤ 16777215
  omega

theorem judgeReply_keeps (l : Lane) (r : Running) (bytes : List Byte) : Keeps 0 s (s.judgeReply l r bytes) := by
  have hc := replyCounter_le bytes
  unfold State.judgeReply
  dsimp only
  split
  · exact recordReply_keeps s _ _ _
  · split
    · exact challengeCounter_keeps s _ _ hc
    · exact challengeMismatch_keeps s _ _
  · split
    · exact endOperation_keeps s l fun t => advanceCounter_keeps t _ hc
    · exact endOperation_keeps s l fun t => lostAdvance_keeps t _

theorem tagReply_keeps (l : Lane) (bytes : List Byte) : Keeps 0 s (s.tagReply l bytes) := by
  unfold State.tagReply
  split
  · exact Keeps.refl s
  · split
    · exact Keeps.refl s
    · split
      · split
        · exact freeLane_keeps s _
        · exact judgeReply_keeps s _ _ _
      · exact Keeps.refl s

theorem noReply_keeps (l : Lane) (r : Running) : Keeps 0 s (s.noReply l r) := by
  unfold State.noReply
  dsimp only
  split
  · split
    · exact sendReadRecord_keeps s _ _ _
    · exact failIdentify_keeps s _ _ _
  · split
    · exact sendChallenge_keeps s _ _ _
    · exact challengeNone_keeps s _ _
  · exact endOperation_keeps s l fun t => lostAdvance_keeps t _

theorem replyExpiry_keeps (l : Lane) : Keeps 0 s (s.replyExpiry l) := by
  unfold State.replyExpiry
  split
  · exact Keeps.refl s
  · split
    · exact Keeps.refl s
    · split
      · split
        · exact freeLane_keeps s _
        · exact noReply_keeps s _ _
      · exact Keeps.refl s

theorem commandEnd_keeps (l : Lane) : Keeps 0 s (s.commandEnd l) := by
  unfold State.commandEnd
  split
  · exact Keeps.refl s
  · split
    · exact Keeps.refl s
    · exact modLane_keeps s _ _

/-! ### Converter and refill watch (chapter 8) -/

theorem refreshDue_keeps : Keeps 0 s s.refreshDue :=
  (mapBays_keeps s fun _ => RecKeeps.of_same rfl rfl).andThen (mapLanes_keeps _ _)

theorem takeBay_keeps (b : Bay) : Keeps 0 s (s.takeBay b) := by
  have hbay := modBay_keeps_same s b (f := fun r => { r with wanted := false, surveyTimer := none, due := none }) rfl rfl
  have hrun : runHeld (s.run.map fun r =>
      if r.members[b].isSome then { r with members := put r.members b (some true) } else r) ≤ runHeld s.run := by
    cases s.run with
    | none => exact le_rfl
    | some r => simp only [Option.map_some, runHeld, apply_ite SurveyRun.reserved, ite_self]; exact le_rfl
  have hset := setRun_keeps (s.modBay b fun r => { r with wanted := false, surveyTimer := none, due := none }) hrun
  exact (hbay.andThen hset).andThen (Keeps.of_frame rfl rfl rfl rfl rfl rfl rfl)

theorem converterArbiter_keeps : Keeps 0 s s.converterArbiter := by
  unfold State.converterArbiter
  split
  · split
    · exact Keeps.of_frame rfl rfl rfl rfl rfl rfl rfl
    · split
      · exact takeBay_keeps s _
      · exact Keeps.refl s
  · exact Keeps.refl s

theorem settleConverter_keeps : Keeps 0 s s.settleConverter :=
  (refreshDue_keeps s).andThen (converterArbiter_keeps _)

theorem runArbiters_keeps : Keeps 0 s s.runArbiters := (arbitrateAll_keeps s).andThen (settleConverter_keeps _)

theorem reinsertStep_keeps (b : Bay) (bd : Binding) (n : Nat) : Keeps 0 s (s.reinsertStep b bd n) := by
  unfold State.reinsertStep
  split
  · split
    · exact addEvidence_keeps s _ _
    · exact Keeps.refl s
  all_goals exact Keeps.refl s

theorem counterStep_keeps (b : Bay) (bd : Binding) (n : Nat) : Keeps 0 s (s.counterStep b bd n) := by
  unfold State.counterStep
  split
  · split
    · exact (modBay_keeps_same s b (f := fun r => { r with counter := 0 }) rfl rfl).andThen (addEvidence_keeps _ _ _)
    · exact modBay_keeps_same s b rfl rfl
  · exact modBay_keeps_same s b rfl rfl

theorem lastSensedStep_keeps (b : Bay) (n : Nat) : Keeps 0 s (s.lastSensedStep b n) :=
  (setTable_keeps s _).andThen (modBinding_keeps _ b fun _ _ => ⟨id, rfl⟩)

theorem survey_keeps (b : Bay) (bd : Binding) (raw : Nat) : Keeps 0 s (s.survey b bd raw) :=
  (reinsertStep_keeps s _ _ _).andThen ((counterStep_keeps _ _ _ _).andThen (lastSensedStep_keeps _ _ _))

theorem conversionEnded_reserved (r : SurveyRun) (b : Bay) (x : Option (Nat × Nat)) :
    (r.conversionEnded b x).reserved = r.reserved := by
  unfold SurveyRun.conversionEnded
  split <;> rfl

theorem bayReading_keeps (b : Bay) (discard : Bool) (raw : Nat) : Keeps 0 s (s.bayReading b discard raw) := by
  have ended : ∀ (j : State) (x : Option (Nat × Nat)), Keeps 0 j (State.passCheck
      { (if j.isActive b then j.modBay b fun r => { r with surveyTimer := some 0 } else j) with
        run := (if j.isActive b then j.modBay b fun r => { r with surveyTimer := some 0 } else j).run.map
          fun r => r.conversionEnded b x }) := by
    intro j x
    refine Keeps.andThen ?_ (passCheck_keeps _)
    refine Keeps.andThen (t := if j.isActive b then j.modBay b fun r => { r with surveyTimer := some 0 } else j) ?_ ?_
    · split
      · exact modBay_keeps_same j b rfl rfl
      · exact Keeps.refl j
    · refine setRun_keeps _ ?_
      cases (if j.isActive b then j.modBay b fun r => { r with surveyTimer := some 0 } else j).run with
      | none => exact le_rfl
      | some r => simp only [Option.map_some, runHeld, conversionEnded_reserved]; exact le_rfl
  unfold State.bayReading
  dsimp only
  refine Keeps.andThen ?_ (ended _ _)
  split
  · exact survey_keeps s _ _ _
  · exact Keeps.refl s

theorem laneReading_keeps (l : Lane) (raw : Nat) : Keeps 0 s (s.laneReading l raw) := by
  have ended : ∀ (j : State) (c : Bool), Keeps 0 s j → Keeps 0 s (if c then j.arbitrate l else j) := by
    intro j c h
    split
    · exact h.andThen (arbitrate_keeps j l)
    · exact h
  unfold State.laneReading
  apply ended
  split
  · exact (modLane_keeps s _ _).andThen (latch_keeps _ _ _)
  · exact modLane_keeps s _ _

theorem conversionComplete_keeps (raw : Nat) : Keeps 0 s (s.conversionComplete raw) := by
  unfold State.conversionComplete
  split
  · exact Keeps.refl s
  · have idle : Keeps 0 s { s with converter := none } := Keeps.of_frame rfl rfl rfl rfl rfl rfl rfl
    dsimp only
    split
    · exact idle.andThen ((bayReading_keeps _ _ _ _).andThen (settleConverter_keeps _))
    · exact idle.andThen ((laneReading_keeps _ _ _).andThen (settleConverter_keeps _))

end Sys2Proof.Machine

/-! `Keeps` for the requests, the frames, the store and the load, and for every command; then O57, O58 and O59. -/

namespace Sys2Proof.Machine

variable (s : State)

/-! ### Metering (chapter 5) -/

section

variable {d : DeviceState} {p : Policy} {r : BayRec}

/-- A REJECTED bay whose draw figures change is as well kept. -/
theorem RecKeeps.of_rejected {reason : RejectReason} {x : DrawFigures} (h : r.phase = .rejected reason x)
    (y : DrawFigures) : RecKeeps d p r { r with phase := .rejected reason y } := by
  refine ⟨fun hl ha => ?_, fun _ => AccountOk.of_unbound rfl, by rw [held_of_unbound rfl]; exact Nat.zero_le _⟩
  obtain ⟨hd, ⟨bd, hp⟩ | ⟨reason', x', hp, hm⟩⟩ := hl ha
  · rw [h] at hp
    exact absurd hp (by simp)
  · exact ⟨hd, .inr ⟨reason, y, rfl, hm⟩⟩

/-- An ACTIVE bay whose binding changes soundly, with its release, is as well kept. -/
theorem RecKeeps.of_active {bd bd' : Binding} (h : r.phase = .active bd) (hs : bd.Sound → bd'.Sound)
    (hrel : bd'.commit.release = bd.commit.release) : RecKeeps d p r { r with phase := .active bd' } := by
  have hmap := RecKeeps.of_mapBinding (d := d) (p := p) r (f := fun _ => bd') fun x hx => by
    rw [h] at hx
    obtain rfl := Option.some.inj hx
    exact ⟨hs, hrel⟩
  rwa [h] at hmap

end

/-- What a charge brings in is accounted for, below the ceiling (R84, R85, R91). -/
theorem charge_sound {bd : Binding} (c : Nat) (h : bd.Sound) : (bd.charge c).Sound := by
  obtain ⟨⟨hinflight, hfine, hmax, hbal⟩, hflight⟩ := h
  have htu : 0 < tuInFl := by decide
  by_cases hceil : bd.acct.ceiling = true
  · have hacct : (bd.charge c).acct = bd.acct := charge_ceiling hceil c
    refine ⟨?_, fun hn => by rw [hacct]; exact hflight hn⟩
    unfold Binding.Balanced
    rw [hacct]
    exact ⟨hinflight, hfine, hmax, fun hn => absurd hceil (by simp [hn])⟩
  · have hceil' : bd.acct.ceiling = false := by simpa using hceil
    by_cases hq : (bd.acct.fine + c) / tuInFl ≤ bd.acct.headroom
    · have hacct : (bd.charge c).acct = _ := charge_within hceil' hq
      refine ⟨?_, fun hn => by rw [hacct]; exact hflight hn⟩
      unfold Binding.Balanced
      rw [hacct]
      have hroom : (bd.acct.fine + c) / tuInFl ≤ maxTu - bd.acct.committed - bd.acct.pending := hq
      have hsplit := Nat.div_add_mod (bd.acct.fine + c) tuInFl
      have hbal := hbal hceil'
      refine ⟨hinflight.trans (Nat.le_add_right _ _), Nat.mod_lt _ htu, ?_, fun _ => ?_⟩
      · dsimp only
        generalize (bd.acct.fine + c) / tuInFl = q at hroom ⊢
        omega
      · show tuInFl * (bd.acct.charged + (bd.acct.pending + (bd.acct.fine + c) / tuInFl)) +
          (bd.acct.fine + c) % tuInFl + bd.acct.credited = tuInFl * bd.acct.carried + (bd.draw.drawn + c)
        rw [← Nat.add_assoc, Nat.mul_add]
        omega
    · have hacct : (bd.charge c).acct = _ := charge_beyond hceil' (Nat.lt_of_not_le hq)
      refine ⟨?_, fun hn => by rw [hacct]; exact hflight hn⟩
      unfold Binding.Balanced
      rw [hacct]
      refine ⟨?_, htu, ?_, fun hn => absurd hn (by simp)⟩
      · dsimp only
        omega
      · dsimp only
        omega

/-- The remainder of a tally entry is no part of the balance. -/
theorem remainder_sound {bd : Binding} (x : Nat) (h : bd.Sound) :
    ({ bd with draw := { bd.draw with remainder := x } } : Binding).Sound := h

theorem takeIn_keeps {d : DeviceState} {p : Policy} (r : BayRec) (c : Nat) :
    RecKeeps d p r { r with phase := r.phase.takeIn c } := by
  cases h : r.phase with
  | active bd => exact RecKeeps.of_active h (charge_sound c) rfl
  | rejected reason x => exact RecKeeps.of_rejected h _
  | off | vacant | seated | identifying | released => exact RecKeeps.of_same h.symm rfl

theorem setRemainder_keeps {d : DeviceState} {p : Policy} (r : BayRec) (x : Nat) :
    RecKeeps d p r { r with phase := r.phase.setRemainder x } := by
  cases h : r.phase with
  | active bd => exact RecKeeps.of_active h (remainder_sound x) rfl
  | rejected reason y => exact RecKeeps.of_rejected h _
  | off | vacant | seated | identifying | released => exact RecKeeps.of_same h.symm rfl

theorem RecKeeps.trans {d : DeviceState} {p : Policy} {r r' r'' : BayRec} (h : RecKeeps d p r r')
    (h' : RecKeeps d p r' r'') : RecKeeps d p r r'' :=
  ⟨fun hl => h'.line (h.line hl), fun ha => h'.account (h.account ha), h'.held.trans h.held⟩

theorem tallyEntry_keeps (e : TallyEntry) : Keeps 0 s (s.tallyEntry e) := by
  unfold State.tallyEntry
  split
  · unfold State.tallyBay
    split
    · exact latch_keeps s _ _
    all_goals exact modBay_keeps s _ ((takeIn_keeps _ _).trans (setRemainder_keeps _ _))
  · exact Keeps.refl s

theorem capture_keeps {d : DeviceState} {p : Policy} (r : BayRec) :
    RecKeeps d p r { r with phase := r.phase.capture } := by
  cases h : r.phase with
  | active bd => exact RecKeeps.of_active h id rfl
  | rejected reason x => exact RecKeeps.of_rejected h _
  | released bd =>
    have hmap := RecKeeps.of_mapBinding (d := d) (p := p) r (f := fun bd => { bd with draw := bd.draw.capture })
      fun _ _ => ⟨id, rfl⟩
    rwa [h] at hmap
  | off | vacant | seated | identifying => exact RecKeeps.of_same h.symm rfl

/-- A swath end lets no line allow that did not (R131). -/
theorem swathEnd_recKeeps {d : DeviceState} {p : Policy} (r : BayRec) : RecKeeps d p r r.swathEnd := by
  have hline : RecKeeps d p { r with phase := r.phase.capture }
      { r with phase := r.phase.capture, line := r.line.atSwathEnd } :=
    RecKeeps.of_line rfl (by cases r.line <;> simp [Line.atSwathEnd, Line.allows])
  refine (capture_keeps r).trans (hline.trans ?_)
  unfold BayRec.swathEnd BayRec.activateStaged
  split <;> exact RecKeeps.of_same rfl rfl

theorem handOnAll_keeps (chosen : Bay → Bool) : Keeps 0 s (s.handOnAll chosen) := by
  refine foldl_keeps (fun t b => ?_) _ _
  split
  · exact handOn_keeps t b
  · exact Keeps.refl t

theorem applyTally_keeps (body : TallyBody) : Keeps 0 s (s.applyTally body) := by
  unfold State.applyTally
  dsimp only
  have applied : Keeps 0 s (s.applyEntries body.entries) := foldl_keeps tallyEntry_keeps _ _
  refine Keeps.andThen ?_ ((handOnAll_keeps _ _).andThen (runArbiters_keeps _))
  split
  · exact applied.andThen (mapBays_keeps _ fun _ => swathEnd_recKeeps _)
  · exact applied

theorem takePurge_keeps (b : Bay) (ms : Nat) : Keeps 0 s (s.takePurge b ms) :=
  (modBay_keeps s b (takeIn_keeps (s.bay b) _)).andThen ((handOnAll_keeps _ _).andThen (runArbiters_keeps _))

theorem applyPurge_keeps (b : Bay) (ms : Nat) : Keeps 0 s (s.applyPurge b ms) := by
  unfold State.applyPurge
  split
  · exact latch_keeps s _ _
  all_goals exact takePurge_keeps s b ms

/-- A credit loses nothing (R88, R91). -/
theorem credit_sound {bd : Binding} (x : Nat) (h : bd.Sound) :
    ({ bd with acct := (bd.acct.credit x).1 } : Binding).Sound := by
  obtain ⟨⟨hinflight, hfine, hmax, hbal⟩, hflight⟩ := h
  have hle := credit_inflight_le hinflight x
  have hfine' := credit_fine_lt hfine x
  have hcredit := credit_balance hinflight x
  have hcredited := credit_credited bd.acct x
  obtain ⟨f, p, c, hframe⟩ : ∃ f p c, (bd.acct.credit x).1 = { bd.acct with fine := f, pending := p, credited := c } :=
    ⟨_, _, _, credit_frame bd.acct x⟩
  generalize (bd.acct.credit x).2 = applied at hcredit hcredited
  rw [hframe] at hle hfine' hcredit hcredited ⊢
  dsimp only at hle hfine' hcredit hcredited
  have hp : p ≤ bd.acct.pending := by
    have htu : 0 < tuInFl := by decide
    by_contra hlt
    have hmul := Nat.mul_le_mul_left tuInFl (Nat.lt_of_not_le hlt)
    rw [Nat.mul_succ] at hmul
    omega
  refine ⟨⟨hle, hfine', ?_, fun hn => ?_⟩, hflight⟩
  · dsimp only
    omega
  · have hbal := hbal hn
    rw [Nat.mul_add] at hbal
    show tuInFl * (bd.acct.charged + p) + f + c = tuInFl * bd.acct.carried + bd.draw.drawn
    rw [Nat.mul_add]
    omega

theorem applyReturn_keeps (b : Bay) (bd : Binding) (x : Nat) : Keeps 0 s (s.applyReturn b bd x) :=
  (modBinding_keeps s b fun _ _ => ⟨credit_sound x, rfl⟩).andThen
    ((withdraw_keeps _ b).andThen ((handOnAll_keeps _ _).andThen (runArbiters_keeps _)))

/-! ### The store writer (R186 to R189) -/

/-- A cold start leaves nothing bound, allowed or waiting (R185). -/
theorem coldStart_keeps : Keeps 0 s (coldStart s) := by
  have hbay : ∀ b, (coldStart s).bay b = BayRec.cold := fun b => by simp [coldStart, State.bay, State.reset]
  have hroom : (coldStart s).occupied = 0 := by
    simp only [occupied_eq, hbay, held_of_unbound (show BayRec.cold.phase.binding? = none from rfl)]
    simp [coldStart, State.reset, runHeld]
  refine ⟨fun b _ => ?_, fun b _ => ?_, Nat.zero_le _, by omega⟩
  · rw [hbay]
    exact fun ha => absurd ha (by simp [BayRec.cold, Line.allows])
  · rw [hbay]
    exact AccountOk.of_unbound rfl

/-- The reply that a request which waited for a walk has at its end, by what is then still dirty (R187, R189). -/
def SaveWaiter.reply (dirty : Sections) (w : SaveWaiter) : Reply :=
  if w.isRestart then
    { ticket := w.ticket, kind := ReqKind.code .restart, result := if dirty.table then .partially else .ok, body := [] }
  else
    { ticket := w.ticket, kind := ReqKind.code .storeSave, result := if dirty.isEmpty then .ok else .partially, body := [] }

/-- The replies of the requests that waited for a walk: one for each that still holds its reservation, in order. -/
def waiterReplies (dirty : Sections) (ws : List SaveWaiter) : List Reply :=
  (ws.filter (·.reserved)).map (SaveWaiter.reply dirty)

theorem answerWaiter_eq (w : SaveWaiter) :
    s.answerWaiter w = { s with replies := s.replies ++ waiterReplies s.writer.dirty [w] } := by
  obtain ⟨isRestart, ticket, reserved⟩ := w
  cases reserved <;> cases isRestart <;>
    simp [State.answerWaiter, State.placeLong, State.place, waiterReplies, SaveWaiter.reply]

theorem answerWaiters_eq (ws : List SaveWaiter) :
    ws.foldl State.answerWaiter s = { s with replies := s.replies ++ waiterReplies s.writer.dirty ws } := by
  induction ws generalizing s with
  | nil => simp [waiterReplies]
  | cons w ws ih =>
    rw [List.foldl_cons, ih, answerWaiter_eq]
    by_cases hw : w.reserved = true <;> simp [waiterReplies, hw]

/-- The end of a walk, before the cold start that can follow it: IDLE with nothing failed, SAVED where it saves, and the
waiting requests answered. -/
def State.walkEnded (s : State) : State :=
  { s with
    writer := { s.writer with writing := none, failed := Sections.empty }
    save := if s.savesNow then .saved else s.save
    latches := if s.savesNow then (s.latch deviceSite .saved).latches else s.latches
    replies := s.replies ++ waiterReplies s.writer.dirty s.waiters, waiters := [] }

theorem walkEnd_eq : s.walkEnd =
    if s.waiters.any fun w => w.isRestart && !w.reserved then coldStart s.walkEnded else s.walkEnded := by
  unfold State.walkEnd
  dsimp only
  have hanswered : ({ (s.waiters.foldl State.answerWaiter
      (if s.savesNow then
        { (State.latch { s with writer := { s.writer with writing := none, failed := Sections.empty } }
            deviceSite .saved) with
          save := .saved }
      else { s with writer := { s.writer with writing := none, failed := Sections.empty } })) with
      waiters := [] } : State) = s.walkEnded := by
    rw [answerWaiters_eq]
    unfold State.walkEnded
    have hlatch : State.latch { s with writer := { s.writer with writing := none, failed := Sections.empty } }
        deviceSite .saved =
          { s with
            writer := { s.writer with writing := none, failed := Sections.empty }
            latches := (s.latch deviceSite .saved).latches } := by
      rw [latch_frame]
      congr 1
      unfold State.latch State.latchPair State.latchOf State.setLatch
      dsimp only
      split <;> rfl
    by_cases hsave : s.savesNow = true
    · simp only [hsave, if_true, hlatch]
    · simp only [hsave, if_false, Bool.false_eq_true]
  rw [hanswered]

theorem walkEnded_keeps : Keeps 0 s s.walkEnded := by
  refine ⟨fun _ => id, fun _ => id, le_rfl, ?_⟩
  simp only [occupied_eq, State.walkEnded, waiterReplies, List.length_append, List.length_map, List.filter_nil,
    List.length_nil]
  change _ + _ + _ + (∑ b : Bay, (s.bay b).held) + _ + _ ≤ _
  omega

theorem walkEnd_keeps : Keeps 0 s s.walkEnd := by
  rw [walkEnd_eq]
  split
  · exact (walkEnded_keeps s).andThen (coldStart_keeps _)
  · exact walkEnded_keeps s

theorem walkNext_keeps : Keeps 0 s s.walkNext := by
  unfold State.walkNext
  split
  · exact Keeps.of_frame rfl rfl rfl rfl rfl rfl rfl
  · exact walkEnd_keeps s

theorem trigger_keeps : Keeps 0 s s.trigger := by
  have cleared : Keeps 0 s { s with writer := { s.writer with failed := Sections.empty } } :=
    Keeps.of_frame rfl rfl rfl rfl rfl rfl rfl
  unfold State.trigger
  split
  · exact Keeps.refl s
  · dsimp only
    split
    · exact cleared
    · exact cleared.andThen (walkNext_keeps _)

theorem writeComplete_keeps (ok : Bool) : Keeps 0 s (s.writeComplete ok) := by
  unfold State.writeComplete
  split
  · exact Keeps.refl s
  · dsimp only
    split
    · refine Keeps.andThen ?_ (walkNext_keeps _)
      exact Keeps.of_frame rfl rfl rfl rfl rfl rfl rfl
    · refine Keeps.andThen (Keeps.andThen ?_ (latch_keeps _ _ _)) (walkNext_keeps _)
      exact Keeps.of_frame rfl rfl rfl rfl rfl rfl rfl

theorem markDirty_keeps (sec : StoreSection) : Keeps 0 s (s.markDirty sec) := Keeps.of_frame rfl rfl rfl rfl rfl rfl rfl

theorem setSave_keeps (x : SaveState) : Keeps 0 s { s with save := x } := Keeps.of_frame rfl rfl rfl rfl rfl rfl rfl

theorem pfailSave_keeps : Keeps 0 s s.pfailSave := by
  unfold State.pfailSave
  split
  · exact (shadowAll_keeps s).andThen ((markDirty_keeps _ _).andThen ((setSave_keeps _ _).andThen (trigger_keeps _)))
  · exact Keeps.refl s

theorem pfailEnd_keeps : Keeps 0 s s.pfailEnd := by
  unfold State.pfailEnd
  split
  · exact (setTable_keeps s _).andThen ((markDirty_keeps _ _).andThen ((trigger_keeps _).andThen (setSave_keeps _ _)))
  · exact Keeps.refl s

/-! ### The load (R184, R185) -/

/-- Whatever the device state and the policy become, the evaluation of every line puts the lines in order. -/
theorem mapBays_evalLines_keeps {t : State} {f : Bay → BayRec → BayRec}
    (ha : ∀ b, (s.bay b).AccountOk → (f b (s.bay b)).AccountOk) (hh : ∀ b, (f b (s.bay b)).held ≤ (s.bay b).held)
    (hb : t.bays = s.bays) (hq : t.requests = s.requests) (hr : t.replies = s.replies) (hw : t.waiters = s.waiters)
    (hrun : t.run = s.run) : Keeps 0 s (t.mapBays f).evalLines := by
  have hbay : ∀ b, t.bay b = s.bay b := fun b => by rw [State.bay, hb]; rfl
  have hrec : ∀ b, ((t.mapBays f).evalLines).bay b =
      { f b (s.bay b) with line := (f b (s.bay b)).line.evaluate ((t.mapBays f).target b) } := by
    intro b
    unfold State.evalLines
    rw [bay_mapBays, bay_mapBays, hbay]
  refine ⟨fun b _ => ?_, fun b h => ?_, by rw [evalLines_requests, mapBays_requests, hq], ?_⟩
  · rw [hrec]
    refine lineOk_evaluate ?_
    rw [State.target, bay_mapBays, hbay]
    rfl
  · rw [hrec]
    exact ha b h
  · have hsum : (∑ b : Bay, (((t.mapBays f).evalLines).bay b).held) ≤ ∑ b : Bay, (s.bay b).held :=
      Finset.sum_le_sum fun b _ => by rw [hrec]; exact hh b
    simp only [occupied_eq, evalLines_replies, evalLines_requests, evalLines_waiters, evalLines_run, mapBays_replies,
      mapBays_requests, mapBays_waiters, mapBays_run, hq, hr, hw, hrun]
    omega

theorem loadSections_frame : s.loadSections =
    { s with
      policy := s.loadSections.policy, settings := s.loadSections.settings, table := s.loadSections.table
      writer := s.loadSections.writer } := rfl

theorem enterRunning_keeps {u : State} (hb : s.bays = u.bays) (hq : s.requests = u.requests)
    (hr : s.replies = u.replies) (hw : s.waiters = u.waiters) (hrun : s.run = u.run) : Keeps 0 u s.enterRunning := by
  unfold State.enterRunning
  dsimp only
  refine Keeps.andThen ?_ ((mapLanes_keeps _ _).andThen (arbitrateAll_keeps _))
  refine mapBays_evalLines_keeps u (t := { s with device := .running }) (fun b ha => ?_) (fun b => ?_) hb hq hr hw hrun
  · unfold BayRec.enterRunning
    split
    · exact ha
    · exact AccountOk.of_unbound rfl
  · unfold BayRec.enterRunning
    split
    · exact le_rfl
    · rw [held_of_unbound rfl]
      exact Nat.zero_le _

theorem loadAnswered_keeps {u : State} (hb : s.bays = u.bays) (hq : s.requests = u.requests)
    (hr : s.replies = u.replies) (hw : s.waiters = u.waiters) (hrun : s.run = u.run) : Keeps 0 u s.loadAnswered := by
  unfold State.loadAnswered
  dsimp only
  refine Keeps.andThen ?_ (settleConverter_keeps _)
  have hstarted : Keeps 0 u (State.enterRunning
      (if s.loadSections.writer.dirty.isEmpty then s.loadSections else s.loadSections.latch deviceSite .storeFault)) := by
    split
    · exact enterRunning_keeps _ hb hq hr hw hrun
    · refine enterRunning_keeps _ ?_ ?_ ?_ ?_ ?_ <;> rw [latch_frame] <;> assumption
  generalize State.enterRunning _ = t at hstarted ⊢
  have htriggered : Keeps 0 u (if t.writer.dirty.isEmpty then t else t.trigger) := by
    split
    · exact hstarted
    · exact hstarted.andThen (trigger_keeps t)
  generalize (if t.writer.dirty.isEmpty then t else t.trigger) = v at htriggered ⊢
  split
  · exact htriggered.andThen (pfailSave_keeps _)
  · exact htriggered

theorem loadFailed_keeps : Keeps 0 s s.loadFailed := by
  unfold State.loadFailed
  dsimp only
  refine Keeps.andThen ?_ (latch_keeps _ _ _)
  exact mapBays_evalLines_keeps s (fun _ => id) (fun _ => le_rfl) rfl rfl rfl rfl rfl

theorem loadComplete_keeps (answered p c d : Bool) : Keeps 0 s (s.loadComplete answered p c d) := by
  unfold State.loadComplete
  split
  · split
    · exact loadAnswered_keeps _ rfl rfl rfl rfl rfl
    · exact loadFailed_keeps s
  · exact Keeps.refl s

/-! ### Time (R3) -/

theorem tick_keeps : Keeps 0 s s.tick := by
  have hrec : ∀ period (r : BayRec), RecKeeps s.device s.policy r (r.tick period) := fun period r =>
    RecKeeps.of_line rfl (by cases h : r.line <;> simp [BayRec.tick, h, Line.allows])
  have hnow : Keeps 0 s { s with now := s.now + 1 } := Keeps.of_frame rfl rfl rfl rfl rfl rfl rfl
  unfold State.tick
  dsimp only
  refine Keeps.andThen
    (t := ({ s with now := s.now + 1 }.mapBays fun b r => r.tick (s.bayCfg b).calib.period).mapLanes fun _ r => r.tick)
    (hnow.andThen ((mapBays_keeps { s with now := s.now + 1 } fun b => hrec _ _).andThen (mapLanes_keeps _ _))) ?_
  exact Keeps.of_frame rfl rfl rfl rfl rfl rfl rfl

/-! ### Takes (R172) -/

theorem dequeue_keeps {r : Request} {rest : List Request} (h : s.requests = r :: rest) :
    Keeps 0 s { s with requests := rest } ∧ ({ s with requests := rest } : State).occupied + 1 = s.occupied := by
  have hroom : ({ s with requests := rest } : State).occupied + 1 = s.occupied := by
    simp only [occupied_eq, h, List.length_cons]
    change _ + _ + (∑ b : Bay, (s.bay b).held) + _ + _ + 1 = _
    omega
  exact ⟨⟨fun _ => id, fun _ => id, by simp [h], by omega⟩, hroom⟩

/-- A take whose action places at most one reply or reservation more than it ends keeps all (R171, R172). -/
theorem take_keeps {k : ReqKind} {act : Request → State → State} (h : ∀ r t, Keeps 1 t (act r t)) :
    Keeps 0 s (s.take k act) := by
  unfold State.take
  split
  · exact Keeps.refl s
  · next r rest hq =>
    split
    · obtain ⟨hkeep, hroom⟩ := dequeue_keeps s hq
      have hserved : Keeps 1 { s with requests := rest } (State.judgeTaken { s with requests := rest } k r act) := by
        unfold State.judgeTaken
        split
        · exact reply_keeps _ _ _ _
        · split
          · exact h _ _
          · exact reply_keeps _ _ _ _
      have hall := hkeep.andThen hserved
      exact ⟨hall.line, hall.account, hall.requests, by have := hserved.room; omega⟩
    · exact Keeps.refl s

theorem withBay_keeps (r : Request) {act : Bay → State} (h : ∀ b, Keeps 1 s (act b)) : Keeps 1 s (s.withBay r act) := by
  unfold State.withBay
  split
  · exact h _
  · exact reply_keeps _ _ _ _

theorem takeUnknown_keeps : Keeps 0 s s.takeUnknown := by
  unfold State.takeUnknown
  split
  · exact Keeps.refl s
  · next r rest hq =>
    split
    · obtain ⟨hkeep, hroom⟩ := dequeue_keeps s hq
      have hreply := reply_keeps { s with requests := rest } r .unknownKind []
      have hall := hkeep.andThen hreply
      exact ⟨hall.line, hall.account, hall.requests, by have := hreply.room; omega⟩
    · exact Keeps.refl s

/-! ### The requests of the policy and the settings -/

theorem policyChanged_keeps (p : Policy) : Keeps 0 s (s.policyChanged p) := by
  unfold State.policyChanged
  have hframe := trigger_frame (s := State.markDirty { s with policy := p } .policy) (markDirty_dirty _ _)
  have hmap := mapBays_evalLines_keeps s (t := State.trigger (State.markDirty { s with policy := p } .policy))
    (f := fun _ r => r) (fun _ => id) (fun _ => le_rfl) (by rw [hframe]; rfl) (by rw [hframe]; rfl) (by rw [hframe]; rfl)
    (by rw [hframe]; rfl) (by rw [hframe]; rfl)
  have hid : ∀ t : State, t.mapBays (fun _ r => r) = t := fun t => by
    have hbays : (t.mapBays fun _ r => r).bays = t.bays := bays_ext fun b => bay_mapBays t b _
    unfold State.mapBays at hbays ⊢
    rw [show (Vector.ofFn fun b => t.bay b) = t.bays from hbays]
  rwa [hid] at hmap

theorem markRevoked_keeps (slots : Byte) : Keeps 0 s (s.markRevoked slots) := by
  unfold State.markRevoked
  split
  · exact Keeps.of_frame rfl rfl rfl rfl rfl rfl rfl
  · exact Keeps.refl s

theorem revokeKey_keeps (k : KeySlot) : Keeps 0 s (s.revokeKey k) := by
  unfold State.revokeKey
  dsimp only
  split
  · exact (markRevoked_keeps s _).andThen (policyChanged_keeps _ _)
  · exact markRevoked_keeps s _

theorem sealPolicy_keeps : Keeps 0 s s.sealPolicy := by
  unfold State.sealPolicy
  refine Keeps.andThen ?_ (policyChanged_keeps _ _)
  exact Keeps.of_frame rfl rfl rfl rfl rfl rfl rfl

theorem placePair_keeps {d : DeviceState} {p : Policy} (r : BayRec) (t : Thresholds) : RecKeeps d p r (r.placePair t) := by
  have hthresholds : RecKeeps d p r { r with thresholds := t } := RecKeeps.of_same rfl rfl
  unfold BayRec.placePair
  split <;> try exact hthresholds
  · exact RecKeeps.of_same rfl rfl
  · next bd hp =>
    have hmap := RecKeeps.of_mapBinding (d := d) (p := p) { r with thresholds := t }
      (f := fun bd => bd.setInk (inkOf t bd.capacity bd.remaining)) fun _ _ => ⟨setInk_sound _, rfl⟩
    have hrel := hthresholds.trans hmap
    simpa only [hp, Phase.mapBinding] using hrel

theorem setCalib_keeps (b : Bay) (c : Calib) : Keeps 0 s (s.setCalib b c) := by
  have hreset : Keeps 0 s (((s.modBayCfg b fun x => { x with calib := c }).discardConversion b).modBay b fun r =>
      { r with counter := 0, wanted := r.wanted || s.senseWants b c }) :=
    (modBayCfg_keeps s b _).andThen ((discardConversion_keeps _ b).andThen (modBay_keeps_same _ b rfl rfl))
  unfold State.setCalib
  dsimp only
  split
  · exact hreset
  · refine hreset.andThen ((setRun_keeps _ ?_).andThen (passCheck_keeps _))
    cases (State.modBay _ b _).run with
    | none => exact le_rfl
    | some r => simp only [Option.map_some, runHeld, skipMember_reserved]; exact le_rfl

/-! ### The requests on one bay -/

theorem recheck_keeps (b : Bay) : Keeps 0 s (s.recheck b) :=
  (abandon_keeps s b).andThen ((leavePhase_keeps _ b rfl _).andThen (modBay_keeps_same _ b rfl rfl))

/-- A release that is recorded holds one reservation (R171, R114). -/
theorem recordRelease_keeps (b : Bay) (rel : Release) :
    Keeps 1 s (s.modBinding b fun x => { x with commit := { x.commit with release := some rel } }) := by
  have hroom := modBay_occupied s b fun r =>
    { r with phase := r.phase.mapBinding fun x => { x with commit := { x.commit with release := some rel } } }
  have hheld : ∀ r : BayRec, r.held ≤ 1 := fun r => by unfold BayRec.held; split <;> omega
  refine ⟨fun c => ?_, fun c => ?_, le_rfl, ?_⟩
  · unfold State.modBinding
    rw [bay_modBay]
    split
    · next hc => subst hc; exact lineOk_mapBinding _
    · exact id
  · unfold State.modBinding
    rw [bay_modBay]
    split
    · next hc => subst hc; exact accountOk_mapBinding fun _ _ => id
    · exact id
  · exact (Nat.le_add_right _ _).trans (hroom.le.trans (Nat.add_le_add_left (hheld _) _))

theorem startRelease_keeps (b : Bay) {bd : Binding} (rel : Release) (h : (s.bay b).phase.active? = some bd) :
    Keeps 1 s (s.startRelease b bd rel) := by
  have hrecorded := recordRelease_keeps s b rel
  have hrel : ∀ x,
      ((s.modBinding b fun x => { x with commit := { x.commit with release := some rel } }).bay b).phase.binding? =
      some x → x.commit.release = some rel ∧ x.commit.state = bd.commit.state := by
    intro x hx
    rw [modBinding_binding, active_is_bound h] at hx
    obtain rfl := Option.some.inj hx
    exact ⟨rfl, rfl⟩
  unfold State.startRelease
  generalize (s.modBinding b fun x => { x with commit := { x.commit with release := some rel } }) = t at hrecorded hrel ⊢
  have hcomplete : ∀ res, Keeps 1 s (t.completeRelease b rel res) := fun res =>
    hrecorded.trans (completeRelease_keeps t b res fun x hx => (hrel x (active_is_bound hx)).1)
  dsimp only
  split
  · next hstate =>
    split
    · exact hcomplete _
    · exact hrecorded.trans (placeFinal_keeps t b fun x hx => by rw [(hrel x hx).2, hstate]; rfl)
  · exact hrecorded.trans (modBay_keeps_same t b (f := fun x => { x with slot := some .final }) rfl rfl)
  · exact hrecorded
  · exact hrecorded
  · exact hcomplete _
  · exact hcomplete _

theorem clearSite_keeps (site : Site) : Keeps 0 s (s.clearSite site) := Keeps.of_frame rfl rfl rfl rfl rfl rfl rfl

theorem turnOff_keeps (b : Bay) : Keeps 0 s (s.turnOff b) :=
  (abandon_keeps s b).andThen ((leavePhase_keeps _ b rfl _).andThen
    ((modBay_keeps_same _ b (f := fun x => { x with filter := Filter.stopped }) rfl rfl).andThen (clearSite_keeps _ _)))

theorem turnOn_keeps (b : Bay) : Keeps 0 s (s.turnOn b) :=
  (setPhase_keeps s b rfl).andThen (modBay_keeps_same _ b rfl rfl)

theorem retryCommit_keeps (b : Bay) (target : Nat) : Keeps 0 s (s.retryCommit b target) :=
  (modBay_keeps_same s b (f := fun x => { x with slot := some .reconcile }) rfl rfl).andThen
    (setCommit_keeps _ b fun _ _ => .inr (by simp [CommitState.target?]))

/-! ### The system requests -/

theorem await_keeps (r : Request) (isRestart : Bool) : Keeps 1 s (s.await r isRestart) := by
  refine ⟨fun _ => id, fun _ => id, le_rfl, ?_⟩
  simp only [occupied_eq, State.await, List.filter_append, List.length_append]
  change _ + _ + (∑ b : Bay, (s.bay b).held) + (_ + 1) + _ ≤ _
  omega

theorem formRun_keeps {x : SurveyRun} (h : s.run = none) : Keeps 1 s { s with run := some x } := by
  refine ⟨fun _ => id, fun _ => id, le_rfl, ?_⟩
  have hx : runHeld (some x) ≤ 1 := by unfold runHeld; dsimp only; split <;> omega
  simp only [occupied_eq, h]
  change _ + _ + (∑ b : Bay, (s.bay b).held) + _ + runHeld (some x) ≤ _ + runHeld none + 1
  omega

theorem restartSave_keeps (r : Request) : Keeps 1 s (s.restartSave r) := by
  unfold State.restartSave
  dsimp only
  have hbegin : Keeps 0 s { s with restarting := true } := Keeps.of_frame rfl rfl rfl rfl rfl rfl rfl
  have hshadowed := hbegin.andThen ((evalForSave_keeps _).andThen ((shadowAll_keeps _).andThen (markDirty_keeps _ .table)))
  exact (hshadowed.andThen (setSave_keeps _ _)).andThen ((await_keeps _ r true).trans (trigger_keeps _))

/-! ### Frames (chapter 10) -/

theorem outcome_keeps (st : LinkStatus) : Keeps 0 s (s.outcome st) := Keeps.of_frame rfl rfl rfl rfl rfl rfl rfl

theorem frameStart_keeps : Keeps 0 s s.frameStart := by
  unfold State.frameStart
  refine Keeps.andThen ?_ (settleConverter_keeps _)
  exact Keeps.of_frame rfl rfl rfl rfl rfl rfl rfl

theorem popReply_keeps : Keeps 0 s { s with replies := s.replies.drop 1 } := by
  refine ⟨fun _ => id, fun _ => id, le_rfl, ?_⟩
  simp only [occupied_eq, List.length_drop]
  change _ + _ + (∑ b : Bay, (s.bay b).held) + _ + _ ≤ _
  omega

/-- The clearing of a delivered record's latches changes the latches alone (R162). -/
theorem clearPairs_frame (pairs : List NoticePair) :
    pairs.foldl (fun t p => t.setLatch p.site p.kind none) s =
      { s with latches := (pairs.foldl (fun t p => t.setLatch p.site p.kind none) s).latches } := by
  induction pairs generalizing s with
  | nil => rfl
  | cons p ps ih =>
    rw [List.foldl_cons, ih]
    rfl

theorem deliverItem_keeps (i : Item) : Keeps 0 s (s.deliverItem i) := by
  cases i with
  | idle => exact Keeps.refl s
  | reply r =>
    show Keeps 0 s (s.deliverReply r)
    unfold State.deliverReply
    dsimp only
    split
    · exact (popReply_keeps s).andThen (coldStart_keeps _)
    · refine (popReply_keeps s).andThen ?_
      exact Keeps.of_frame rfl rfl rfl rfl rfl rfl rfl
  | notice lv pairs =>
    show Keeps 0 s (s.deliverNotice lv pairs)
    unfold State.deliverNotice
    dsimp only
    rw [clearPairs_frame]
    exact Keeps.of_frame rfl rfl rfl rfl rfl rfl rfl

theorem endFrame_keeps (clocked : Nat) : Keeps 0 s (s.endFrame clocked) := by
  unfold State.endFrame
  split
  · exact Keeps.refl s
  · split
    · refine Keeps.andThen (Keeps.andThen ?_ (deliverItem_keeps _ _)) (settleConverter_keeps _)
      exact Keeps.of_frame rfl rfl rfl rfl rfl rfl rfl
    · exact Keeps.refl s

/-- The return of a level to offerable changes latches and services alone (R167). -/
theorem relatch_frame (lv : Level) (pairs : List NoticePair) :
    pairs.foldl (fun t p => t.latchPair p.site p.kind lv) s =
      { s with latches := (pairs.foldl (fun t p => t.latchPair p.site p.kind lv) s).latches } := by
  induction pairs generalizing s with
  | nil => rfl
  | cons p ps ih =>
    rw [List.foldl_cons, ih, latchPair_frame]

theorem restoreLevel_frame (lv : Level) : s.restoreLevel lv =
    { s with latches := (s.restoreLevel lv).latches, service := (s.restoreLevel lv).service } := by
  unfold State.restoreLevel
  split
  · rfl
  · dsimp only
    rw [relatch_frame]

theorem restoreService_frame : s.restoreService =
    { s with latches := s.restoreService.latches, service := s.restoreService.service } := by
  unfold State.restoreService
  have hfold : ∀ (l : List Level) (u : State), l.foldl State.restoreLevel u =
      { u with latches := (l.foldl State.restoreLevel u).latches, service := (l.foldl State.restoreLevel u).service } := by
    intro l
    induction l with
    | nil => exact fun _ => rfl
    | cons lv l ih =>
      intro u
      rw [List.foldl_cons, ih, restoreLevel_frame]
  exact hfold _ _

/-- A link reset leaves every bay but for the reservation of its release, and no more held than before (R174). -/
theorem dropReservations_keeps : Keeps 0 s s.dropReservations := by
  have hrec : ∀ b, RecKeeps s.device s.policy (s.bay b)
      { s.bay b with phase := (s.bay b).phase.mapBinding Binding.dropReservation } := by
    intro b
    refine ⟨lineOk_mapBinding _, accountOk_mapBinding fun _ _ => id, ?_⟩
    · cases hb : (s.bay b).phase.binding? with
      | none => rw [held_of_unbound (by simp [hb])]; exact Nat.zero_le _
      | some bd =>
        rw [held_of_bound (bd := bd.dropReservation) (by simp [hb])]
        cases hrel : bd.commit.release <;> simp [Binding.dropReservation, hrel]
  have hbays := mapBays_keeps s (f := fun _ r => { r with phase := r.phase.mapBinding Binding.dropReservation }) hrec
  refine hbays.andThen ⟨fun _ => id, fun _ => id, le_rfl, ?_⟩
  have hwaiters : ((s.waiters.map fun w => { w with reserved := false }).filter (·.reserved)).length = 0 := by
    rw [List.length_eq_zero_iff, List.filter_eq_nil_iff]
    intro w hw
    obtain ⟨v, _, rfl⟩ := List.mem_map.mp hw
    simp
  have hrun : runHeld (s.run.map fun r => { r with reserved := false }) = 0 := by cases s.run <;> rfl
  unfold State.dropReservations
  simp only [occupied_eq, mapBays_waiters, mapBays_run, hwaiters, hrun]
  simp only [mapBays_replies, mapBays_requests]
  change _ + (∑ b : Bay, ((s.mapBays fun _ r =>
    { r with phase := r.phase.mapBinding Binding.dropReservation }).bay b).held) + 0 + 0 ≤ _
  omega

theorem linkReset_keeps : Keeps 0 s s.linkReset := by
  unfold State.linkReset
  split
  · exact outcome_keeps s _
  · have hempty : Keeps 0 s
        ({ s with requests := [], replies := [], frame := s.frame.map Frame.withdrawn } : State) := by
      refine ⟨fun _ => id, fun _ => id, Nat.zero_le _, ?_⟩
      simp only [occupied_eq, List.length_nil]
      change 0 + 0 + (∑ b : Bay, (s.bay b).held) + _ + _ ≤ _
      omega
    have hrestore : ∀ t : State, Keeps 0 t t.restoreService := fun t => by
      rw [restoreService_frame]
      exact Keeps.of_frame rfl rfl rfl rfl rfl rfl rfl
    have hrestored := hempty.andThen ((dropReservations_keeps _).andThen ((hrestore _).andThen (outcome_keeps _ .taken)))
    dsimp only
    split
    · exact hrestored.andThen (coldStart_keeps _)
    · exact hrestored

/-- A host half is accepted, with room for it and its reply, or changes the link status alone (R170, R171). -/
theorem judgeRequest_cases (bytes : List Byte) (l : Nat) :
    (∃ st, s.judgeRequest bytes l = s.outcome st) ∨
      s.hasRoom = true ∧ ∃ r, s.judgeRequest bytes l = State.outcome { s with requests := s.requests ++ [r] } .taken := by
  unfold State.judgeRequest
  split
  · exact .inl ⟨_, rfl⟩
  · split
    · exact .inl ⟨_, rfl⟩
    · split
      · unfold State.accept
        split
        · next hroom => exact .inr ⟨hroom, _, rfl⟩
        · exact .inl ⟨_, rfl⟩
      · exact .inl ⟨_, rfl⟩

end Sys2Proof.Machine

/-! Every command keeps the permit lines, the accounts and the room in the queues: O57, O58 and O59. -/

namespace Sys2Proof.Machine

variable (s : State)

/-! ### Actions of the requests at their take -/

theorem Keeps.thenReply {s t : State} (h : Keeps 0 s t) (r : Request) (res : Result) (body : List Byte) :
    Keeps 1 s (t.reply r res body) := h.andThen (reply_keeps t r res body)

theorem exec_tally_keeps (r : Request) : Keeps 1 s
    (match TallyBody.parse r.body with
    | none => s.reply r .badArg []
    | some body =>
      (s.applyTally body).reply r (if skippedCount body.entries = 0 then .ok else .partially)
        (toBytes 1 (skippedCount body.entries) ++ toBytes 1 (s.droppedCount body.entries))) := by
  split
  · exact reply_keeps s _ _ _
  · exact (applyTally_keeps s _).thenReply _ _ _

/-- What a change of the settings leaves of the parts that are kept. -/
theorem setSettings_keeps (c : Settings) : Keeps 0 s { s with settings := c } := Keeps.of_frame rfl rfl rfl rfl rfl rfl rfl

theorem storeSettings_keeps (c : Settings) : Keeps 0 s (State.settingsChanged { s with settings := c }) :=
  (setSettings_keeps s c).andThen (settingsChanged_keeps _)

theorem placeLevels_keeps (b : Bay) (pair : Thresholds) :
    Keeps 0 s (((s.modBay b fun x => x.placePair pair).modBayCfg b fun c => { c with stored := pair }).evalLine b) :=
  (modBay_keeps s b (placePair_keeps _ _)).andThen ((modBayCfg_keeps _ _ _).andThen (evalLine_keeps _ _))

theorem closeWindow_keeps (b : Bay) (level : Presence) : Keeps 0 s (s.closeWindow b level) := by
  have hclosed := modBay_keeps_same s b (f := fun r => { r with filter := { level := level, window := none } }) rfl rfl
  unfold State.closeWindow
  dsimp only
  split
  · refine hclosed.andThen ?_
    unfold State.insertion
    split
    · exact (setPhase_keeps _ b rfl).andThen ((modBay_keeps_same _ b rfl rfl).andThen (latch_keeps _ _ _))
    · exact Keeps.refl _
  · refine hclosed.andThen ?_
    unfold State.removal
    split
    · exact Keeps.refl _
    · exact (abandon_keeps _ b).andThen ((leavePhase_keeps _ b rfl true).andThen (latch_keeps _ _ _))

theorem setService_keeps (x : Vector (Option (List NoticePair)) 4) : Keeps 0 s { s with service := x } :=
  Keeps.of_frame rfl rfl rfl rfl rfl rfl rfl

/-- The expiry of a hold limit lets no line allow that did not (R132). -/
theorem expire_allows (l : Line) (h : l.expire.allows = true) : l.allows = true := by
  cases l with
  | inhibit => exact h
  | allow => rfl
  | armed ms => rfl

/-- Every command but a REQUEST_FRAME keeps the lines, the accounts and the room. -/
theorem exec_keeps {c : Instr} {t : State} (hc : ∀ bytes, c ≠ .requestFrame bytes) (h : exec c s = .next t) :
    Keeps 0 s t := by
  have hnext : ∀ u, (Host.Outcome.next u : Host.Outcome State Fault Refusal) = .next t → Keeps 0 s u → Keeps 0 s t :=
    fun u hu hk => Host.Outcome.next.inj hu ▸ hk
  cases c with
  | frameStart => exact hnext _ h (frameStart_keeps s)
  | itemDelivery n => exact hnext _ h (endFrame_keeps s n)
  | emptyFrame => exact hnext _ h (outcome_keeps s _)
  | linkReset => exact hnext _ h (linkReset_keeps s)
  | requestFrame bytes => exact absurd rfl (hc bytes)
  | unknownKind => exact hnext _ h (takeUnknown_keeps s)
  | statusGet => exact hnext _ h (take_keeps s fun r t => reply_keeps t _ _ _)
  | bayGet => exact hnext _ h (take_keeps s fun r t => withBay_keeps t r fun b => reply_keeps t _ _ _)
  | meterGet =>
    refine hnext _ h (take_keeps s fun r t => withBay_keeps t r fun b => ?_)
    split <;> exact reply_keeps t _ _ _
  | tableGet =>
    refine hnext _ h (take_keeps s fun r t => ?_)
    split <;> exact reply_keeps t _ _ _
  | tally => exact hnext _ h (take_keeps s fun r t => exec_tally_keeps t r)
  | purgeReport =>
    exact hnext _ h (take_keeps s fun r t => withBay_keeps t r fun b => (applyPurge_keeps t b _).thenReply _ _ _)
  | returnReport =>
    refine hnext _ h (take_keeps s fun r t => withBay_keeps t r fun b => ?_)
    split
    · exact reply_keeps t _ _ _
    · exact (applyReturn_keeps t b _ _).thenReply _ _ _
  | dropsSet =>
    exact hnext _ h (take_keeps s fun r t => withBay_keeps t r fun b =>
      ((modBayCfg_keeps t b _).andThen (settingsChanged_keeps _)).thenReply _ _ _)
  | levelsSet =>
    exact hnext _ h (take_keeps s fun r t => withBay_keeps t r fun b =>
      ((placeLevels_keeps t b _).andThen (settingsChanged_keeps _)).thenReply _ _ _)
  | senseSet =>
    exact hnext _ h (take_keeps s fun r t => withBay_keeps t r fun b =>
      ((setCalib_keeps t b _).andThen ((settingsChanged_keeps _).andThen (settleConverter_keeps _))).thenReply _ _ _)
  | commitSet =>
    exact hnext _ h (take_keeps s fun r t => withBay_keeps t r fun b =>
      ((modBayCfg_keeps t b _).andThen ((settingsChanged_keeps _).andThen
        ((evalStep_keeps _ b).andThen (runArbiters_keeps _)))).thenReply _ _ _)
  | slotSet =>
    exact hnext _ h (take_keeps s fun r t => withBay_keeps t r fun b =>
      ((modBayCfg_keeps t b _).andThen (settingsChanged_keeps _)).thenReply _ _ _)
  | supplySet => exact hnext _ h (take_keeps s fun r t => (storeSettings_keeps t _).thenReply _ _ _)
  | routeSet =>
    refine hnext _ h (take_keeps s fun r t => ?_)
    split
    · exact (storeSettings_keeps t _).thenReply _ _ _
    all_goals exact reply_keeps t _ _ _
  | maskSet => exact hnext _ h (take_keeps s fun r t => (storeSettings_keeps t _).thenReply _ _ _)
  | policySet =>
    refine hnext _ h (take_keeps s fun r t => ?_)
    split
    · split
      · exact reply_keeps t _ _ _
      · exact (policyChanged_keeps t _).thenReply _ _ _
    · exact reply_keeps t _ _ _
  | keyRevoke =>
    refine hnext _ h (take_keeps s fun r t => ?_)
    split
    · exact (revokeKey_keeps t _).thenReply _ _ _
    · exact reply_keeps t _ _ _
  | bayRecheck =>
    refine hnext _ h (take_keeps s fun r t => withBay_keeps t r fun b => ?_)
    split
    · exact ((recheck_keeps t b).andThen (runArbiters_keeps _)).thenReply _ _ _
    · exact reply_keeps t _ _ _
  | bayRelease =>
    refine hnext _ h (take_keeps s fun r t => withBay_keeps t r fun b => ?_)
    split
    · exact reply_keeps t _ _ _
    · next bd hbd =>
      split
      · exact reply_keeps t _ _ _
      · exact (startRelease_keeps t b _ hbd).trans (runArbiters_keeps _)
  | bayDisable =>
    refine hnext _ h (take_keeps s fun r t => withBay_keeps t r fun b => ?_)
    split
    · exact reply_keeps t _ _ _
    · exact ((turnOff_keeps t b).andThen ((modBayCfg_keeps _ b _).andThen
        ((settingsChanged_keeps _).andThen (settleConverter_keeps _)))).thenReply _ _ _
  | bayEnable =>
    refine hnext _ h (take_keeps s fun r t => withBay_keeps t r fun b => ?_)
    split
    · exact ((turnOn_keeps t b).andThen ((modBayCfg_keeps _ b _).andThen (settingsChanged_keeps _))).thenReply _ _ _
    · exact reply_keeps t _ _ _
  | commitRetry =>
    refine hnext _ h (take_keeps s fun r t => withBay_keeps t r fun b => ?_)
    split
    · exact ((retryCommit_keeps t b _).andThen (runArbiters_keeps _)).thenReply _ _ _
    · exact reply_keeps t _ _ _
  | surveyRun =>
    refine hnext _ h (take_keeps s fun r t => ?_)
    split
    · exact reply_keeps t _ _ _
    · next hrun => exact (formRun_keeps t hrun).trans ((startPasses_keeps _ _).andThen (settleConverter_keeps _))
  | storeSave =>
    exact hnext _ h (take_keeps s fun r t =>
      ((evalForSave_keeps t).andThen (await_keeps _ r false)).trans ((trigger_keeps _).andThen (runArbiters_keeps _)))
  | restart =>
    refine hnext _ h (take_keeps s fun r t => ?_)
    split
    · exact reply_keeps t _ _ _
    · split
      · exact reply_keeps t _ _ _
      · exact (restartSave_keeps t r).trans (runArbiters_keeps _)
  | doze => exact hnext _ h (take_keeps s fun r t => reply_keeps t _ _ _)
  | noticeDone =>
    refine hnext _ h (take_keeps s fun r t => ?_)
    split
    · exact reply_keeps t _ _ _
    · split
      · exact (setService_keeps t _).thenReply _ _ _
      · exact reply_keeps t _ _ _
  | rawPresenceChange b level =>
    refine hnext _ h ?_
    split
    · exact Keeps.refl s
    · refine Keeps.andThen (t := { s with raw := put s.raw b level }) ?_ (modBay_keeps_same _ b ?_ ?_)
      · exact Keeps.of_frame rfl rfl rfl rfl rfl rfl rfl
      all_goals unfold BayRec.rawChange; split <;> rfl
  | presenceWindowExpiry b =>
    refine hnext _ h ?_
    split
    · exact Keeps.refl s
    · split
      · exact (closeWindow_keeps s b _).andThen (runArbiters_keeps _)
      · exact Keeps.refl s
  | tagReply l bytes => exact hnext _ h ((tagReply_keeps s l bytes).andThen (settleConverter_keeps _))
  | replyTimerExpiry l => exact hnext _ h ((replyExpiry_keeps s l).andThen (settleConverter_keeps _))
  | holdLimitExpiry b =>
    exact hnext _ h (modBay_keeps s b (RecKeeps.of_line rfl (expire_allows _)))
  | surveyTimerExpiry b =>
    refine hnext _ h ?_
    split
    · exact Keeps.refl s
    · split
      · exact (modBay_keeps_same s b (f := fun r => { r with wanted := true }) rfl rfl).andThen (settleConverter_keeps _)
      · exact Keeps.refl s
  | supplyTimerExpiry l =>
    refine hnext _ h ?_
    split
    · exact Keeps.refl s
    · split
      · exact settleConverter_keeps s
      · exact Keeps.refl s
  | conversionComplete raw => exact hnext _ h (conversionComplete_keeps s _)
  | storeWriteComplete ok => exact hnext _ h (writeComplete_keeps s ok)
  | pfailAssert =>
    refine hnext _ h (Keeps.andThen ?_ (pfailSave_keeps _))
    exact Keeps.of_frame rfl rfl rfl rfl rfl rfl rfl
  | pfailDeassert =>
    refine hnext _ h (Keeps.andThen ?_ (pfailEnd_keeps _))
    exact Keeps.of_frame rfl rfl rfl rfl rfl rfl rfl
  | powerOn => exact hnext _ h (coldStart_keeps s)
  | resetPin => exact hnext _ h (coldStart_keeps s)
  | loadCompletion a p q d => exact hnext _ h (loadComplete_keeps s a p q d)
  | laneCommandEnd l => exact hnext _ h ((commandEnd_keeps s l).andThen (settleConverter_keeps _))
  -- SEAL: the command's name is a word of the language, so its case is the one that is left
  | _ =>
    refine hnext _ h (take_keeps s fun r t => ?_)
    split
    · exact reply_keeps t _ _ _
    · exact (sealPolicy_keeps t).thenReply _ _ _

/-- A REQUEST_FRAME keeps all, or is accepted where there is room for it and its reply (R170, R171). -/
theorem exec_requestFrame_cases {bytes : List Byte} {t : State} (h : exec (.requestFrame bytes) s = .next t) :
    Keeps 0 s t ∨ s.hasRoom = true ∧ ∃ r, t = State.outcome { s with requests := s.requests ++ [r] } .taken := by
  obtain rfl := Host.Outcome.next.inj h
  split
  · exact .inl (outcome_keeps s _)
  · split
    · exact .inl (outcome_keeps s _)
    · split
      · exact .inl (linkReset_keeps s)
      · obtain ⟨st, hst⟩ | haccept := judgeRequest_cases s (_ :: _) _
        · rw [hst]
          exact .inl (outcome_keeps s st)
        · exact .inr haccept

/-- A step is a tick or runs a command, on a state that is the same but for the queue of commands. -/
theorem step_cases {t : State} (h : step s = .next t) :
    t = s.tick ∨ ∃ c rest, s.pending = c :: rest ∧ exec c { s with pending := rest } = .next t := by
  unfold step at h
  split at h
  · exact .inl (Host.Outcome.next.inj h).symm
  · next c rest hp => exact .inr ⟨c, rest, hp, h⟩

/-- Every step keeps the lines, the accounts and the room, or accepts a request where there is room. -/
theorem step_keeps {t : State} (h : step s = .next t) :
    Keeps 0 s t ∨ s.hasRoom = true ∧ ∃ rest r,
      t = State.outcome { s with pending := rest, requests := s.requests ++ [r] } .taken := by
  obtain rfl | ⟨c, rest, -, hexec⟩ := step_cases s h
  · exact .inl (tick_keeps s)
  · have hrest : Keeps 0 s { s with pending := rest } := Keeps.of_frame rfl rfl rfl rfl rfl rfl rfl
    by_cases hc : ∃ bytes, c = .requestFrame bytes
    · obtain ⟨bytes, rfl⟩ := hc
      obtain hkeep | ⟨hroom, r, rfl⟩ := exec_requestFrame_cases _ hexec
      · exact .inl (hrest.andThen hkeep)
      · exact .inr ⟨hroom, rest, r, rfl⟩
    · exact .inl (hrest.andThen (exec_keeps _ (fun bytes hb => hc ⟨bytes, hb⟩) hexec))

/-! ### The invariants -/

/-- Settles O57: an evaluation puts a line in order, and every change of a bay state or of the policy ends in one. -/
theorem permitSafeKept : Obligations.PermitSafeKept := by
  intro s t hsafe h
  obtain hkeep | ⟨-, rest, r, rfl⟩ := step_keeps s h
  · exact fun b => hkeep.line b (hsafe b)
  · exact hsafe

/-- Settles O58: charges, credits, launches, completions and cuts each keep a sound account. -/
theorem accountsBalancedKept : Obligations.AccountsBalancedKept := by
  intro s t hbal h
  obtain hkeep | ⟨-, rest, r, rfl⟩ := step_keeps s h
  · exact fun b => hkeep.account b (hbal b)
  · exact hbal

/-- Settles O59: a reply takes the place of a reservation, and a request is accepted only where there is room. -/
theorem queuesBoundedKept : Obligations.QueuesBoundedKept := by
  rintro s t ⟨hqueue, hroom⟩ h
  obtain hkeep | ⟨hfits, rest, r, rfl⟩ := step_keeps s h
  · exact ⟨hkeep.requests.trans hqueue, hkeep.room.trans hroom⟩
  · have hfits' : s.requests.length < 4 ∧ s.occupied < 8 := by simpa [State.hasRoom, State.occupied] using hfits
    have hone : (State.outcome { s with pending := rest, requests := s.requests ++ [r] } .taken).occupied =
        s.occupied + 1 := by
      simp only [occupied_eq, State.outcome, List.length_append, List.length_singleton]
      change _ + (_ + 1) + (∑ b : Bay, (s.bay b).held) + _ + _ = _
      omega
    refine ⟨?_, ?_⟩
    · show (s.requests ++ [r]).length ≤ 4
      rw [List.length_append, List.length_singleton]
      omega
    · show (State.outcome { s with pending := rest, requests := s.requests ++ [r] } .taken).occupied ≤ 8
      omega

end Sys2Proof.Machine

/-! What each command can touch of the state's other parts: a table of parts by command, and one lemma per operation; then
O19 and O31. -/

namespace Sys2Proof.Machine

/-! ### Parts of the state -/

/-- The parts of the state that only some commands touch. -/
inductive Part where
  | device
  | restarting
  | raw
  | pfail
  | oneWay
  | store
  | policy
  | settings
  | service
  | dozing
  | frame
  | status
  deriving DecidableEq

/-- A part is the same in two states. -/
def Part.Same (s t : State) : Part → Prop
  | .device => t.device = s.device
  | .restarting => t.restarting = s.restarting
  | .raw => t.raw = s.raw
  | .pfail => t.pfail = s.pfail
  | .oneWay => t.oneWay = s.oneWay
  | .store => t.store = s.store
  | .policy => t.policy = s.policy
  | .settings => t.settings = s.settings
  | .service => t.service = s.service
  | .dozing => t.dozing = s.dozing
  | .frame => t.frame = s.frame
  | .status => t.status = s.status

/-- The waiting commands, the time base, the master keys and every part but those listed are as they were. -/
structure KeptBut (ps : List Part) (s t : State) : Prop where
  pending : t.pending = s.pending
  now : t.now = s.now
  masterKeys : t.masterKeys = s.masterKeys
  parts : ∀ p, p ∉ ps → p.Same s t

namespace KeptBut

variable {ps : List Part} {s t u : State}

theorem refl (s : State) : KeptBut ps s s := ⟨rfl, rfl, rfl, fun p _ => by cases p <;> rfl⟩

theorem trans (h : KeptBut ps s t) (h' : KeptBut ps t u) : KeptBut ps s u where
  pending := h'.pending.trans h.pending
  now := h'.now.trans h.now
  masterKeys := h'.masterKeys.trans h.masterKeys
  parts p hp := by
    have h1 := h.parts p hp
    have h2 := h'.parts p hp
    cases p <;> exact Eq.trans h2 h1

theorem mono {qs : List Part} (h : KeptBut ps s t) (hsub : ps ⊆ qs) : KeptBut qs s t :=
  ⟨h.pending, h.now, h.masterKeys, fun p hp => h.parts p fun hmem => hp (hsub hmem)⟩

/-- What the operations on bays, lanes and the converter keep is every part. -/
theorem of_core (h : CoreKept s t) : KeptBut ps s t := by
  refine ⟨h.pending, h.now, h.masterKeys, fun p _ => ?_⟩
  cases p
  case device => exact h.device
  case restarting => exact h.restarting
  case raw => exact h.raw
  case pfail => exact h.pfail
  case oneWay => exact h.oneWay
  case store => exact h.store
  case policy => exact h.policy
  case settings => exact h.settings
  case service => exact h.service
  case dozing => exact h.dozing
  case frame => exact h.frame
  case status => exact h.status

end KeptBut

variable {ps : List Part} (s : State)

/-! ### Operations on one part -/

theorem setRaw_kept (x : Vector Presence 12) : KeptBut [.raw] s { s with raw := x } :=
  ⟨rfl, rfl, rfl, fun p hp => by cases p <;> first | rfl | simp at hp⟩

theorem setPfail_kept (x : Bool) : KeptBut [.pfail] s { s with pfail := x } :=
  ⟨rfl, rfl, rfl, fun p hp => by cases p <;> first | rfl | simp at hp⟩

theorem setSettings_kept (x : Settings) : KeptBut [.settings] s { s with settings := x } :=
  ⟨rfl, rfl, rfl, fun p hp => by cases p <;> first | rfl | simp at hp⟩

theorem modBayCfg_kept (b : Bay) (f : BaySettings → BaySettings) : KeptBut [.settings] s (s.modBayCfg b f) :=
  setSettings_kept s _

theorem setService_kept (x : Vector (Option (List NoticePair)) 4) : KeptBut [.service] s { s with service := x } :=
  ⟨rfl, rfl, rfl, fun p hp => by cases p <;> first | rfl | simp at hp⟩

theorem setRestarting_kept (x : Bool) : KeptBut [.restarting] s { s with restarting := x } :=
  ⟨rfl, rfl, rfl, fun p hp => by cases p <;> first | rfl | simp at hp⟩

theorem setPolicy_kept (x : Policy) : KeptBut [.policy] s { s with policy := x } :=
  ⟨rfl, rfl, rfl, fun p hp => by cases p <;> first | rfl | simp at hp⟩

theorem setOneWay_kept (x : OneWay) : KeptBut [.oneWay] s { s with oneWay := x } :=
  ⟨rfl, rfl, rfl, fun p hp => by cases p <;> first | rfl | simp at hp⟩

theorem setStore_kept (x : Store) : KeptBut [.store] s { s with store := x } :=
  ⟨rfl, rfl, rfl, fun p hp => by cases p <;> first | rfl | simp at hp⟩

theorem setDevice_kept (x : DeviceState) : KeptBut [.device] s { s with device := x } :=
  ⟨rfl, rfl, rfl, fun p hp => by cases p <;> first | rfl | simp at hp⟩

theorem outcome_kept (st : LinkStatus) : KeptBut [.status] s (s.outcome st) :=
  ⟨rfl, rfl, rfl, fun p hp => by cases p <;> first | rfl | simp at hp⟩

theorem startFrame_kept (d : Bool) (f : Option Frame) :
    KeptBut [.dozing, .frame] s { s with dozing := d, frame := f } :=
  ⟨rfl, rfl, rfl, fun p hp => by cases p <;> first | rfl | simp at hp⟩

/-- A state that differs in no part but queues, writer, waiting requests, save state, latches, table, random source, bays,
lanes, converter and run. -/
theorem KeptBut.of_frame {s t : State}
    (h : t = { s with
      requests := t.requests, replies := t.replies, writer := t.writer, waiters := t.waiters, save := t.save
      latches := t.latches, table := t.table, nonceDraws := t.nonceDraws, bays := t.bays, lanes := t.lanes
      converter := t.converter, run := t.run }) : KeptBut ps s t := by
  rw [h]
  exact ⟨rfl, rfl, rfl, fun p _ => by cases p <;> rfl⟩

/-! ### The store writer -/

theorem markDirty_kept (sec : StoreSection) : KeptBut ps s (s.markDirty sec) := KeptBut.of_frame rfl

/-- A trigger with a dirty section keeps every part. -/
theorem trigger_dirty_kept (h : s.writer.dirty.isEmpty = false) : KeptBut ps s s.trigger := by
  rw [trigger_frame h]
  exact KeptBut.of_frame rfl

theorem settingsChanged_kept : KeptBut ps s s.settingsChanged := by
  rw [settingsChanged_frame]
  exact KeptBut.of_frame rfl

/-- The end of a walk keeps every part, but for a cold start that follows it. -/
theorem walkEnd_kept : KeptBut ps s s.walkEnd ∨ ∃ u, KeptBut ps s u ∧ s.walkEnd = coldStart u := by
  have hended : KeptBut ps s s.walkEnded := KeptBut.of_frame rfl
  rw [walkEnd_eq]
  split
  · exact .inr ⟨_, hended, rfl⟩
  · exact .inl hended

theorem walkNext_kept : KeptBut ps s s.walkNext ∨ ∃ u, KeptBut ps s u ∧ s.walkNext = coldStart u := by
  unfold State.walkNext
  split
  · exact .inl (KeptBut.of_frame rfl)
  · exact walkEnd_kept s

/-- A trigger keeps every part, but for a cold start that follows the end of a walk. -/
theorem trigger_kept : KeptBut ps s s.trigger ∨ ∃ u, KeptBut ps s u ∧ s.trigger = coldStart u := by
  have hcleared : KeptBut ps s { s with writer := { s.writer with failed := Sections.empty } } :=
    KeptBut.of_frame rfl
  unfold State.trigger
  split
  · exact .inl (KeptBut.refl s)
  · dsimp only
    split
    · exact .inl hcleared
    · obtain h | ⟨u, hu, h⟩ := walkNext_kept (ps := ps) { s with writer := { s.writer with failed := Sections.empty } }
      · exact .inl (hcleared.trans h)
      · exact .inr ⟨u, hcleared.trans hu, h⟩

theorem writeComplete_kept (ok : Bool) :
    KeptBut [.store] s (s.writeComplete ok) ∨ ∃ u, KeptBut [.store] s u ∧ s.writeComplete ok = coldStart u := by
  have hnext : ∀ u, KeptBut [.store] s u →
      KeptBut [.store] s u.walkNext ∨ ∃ v, KeptBut [.store] s v ∧ u.walkNext = coldStart v := by
    intro u hu
    obtain h | ⟨v, hv, h⟩ := walkNext_kept (ps := [.store]) u
    · exact .inl (hu.trans h)
    · exact .inr ⟨v, hu.trans hv, h⟩
  unfold State.writeComplete
  split
  · exact .inl (KeptBut.refl s)
  · dsimp only
    split
    · exact hnext _ (KeptBut.trans (t := { s with writer := { s.writer with writing := none } })
        (KeptBut.of_frame rfl) (setStore_kept _ _))
    · refine hnext _ (KeptBut.trans ?_ (KeptBut.of_core (latch_core _ _ _)))
      exact KeptBut.of_frame rfl

theorem pfailSave_kept : KeptBut ps s s.pfailSave := by
  unfold State.pfailSave
  split
  · refine (KeptBut.of_core (shadowAll_core s)).trans ?_
    generalize s.shadowAll = u
    refine KeptBut.trans (t := { u.markDirty .table with save := .saving }) (KeptBut.of_frame rfl) ?_
    exact trigger_dirty_kept _ (markDirty_dirty u .table)
  · exact KeptBut.refl s

theorem pfailEnd_kept : KeptBut ps s s.pfailEnd := by
  unfold State.pfailEnd
  split
  · refine KeptBut.trans (KeptBut.trans (KeptBut.of_core (setTable_core s (s.table.map Entry.clearShadow)))
      ((markDirty_kept _ .table).trans (trigger_dirty_kept _ (markDirty_dirty _ _)))) ?_
    exact KeptBut.of_frame rfl
  · exact KeptBut.refl s

/-! ### The load -/

/-- The parts a load gives their values. -/
abbrev loadParts : List Part := [.device, .store, .policy, .settings]

theorem loadSections_kept : KeptBut loadParts s s.loadSections := by
  rw [loadSections_frame]
  exact ((setPolicy_kept s _).mono (by simp)).trans
    (((setSettings_kept _ s.loadSections.settings).mono (by simp)).trans (KeptBut.of_frame rfl))

/-- The entry into RUNNING changes the device state, and else what bays and lanes hold. -/
theorem enterRunning_core : CoreKept { s with device := .running } s.enterRunning :=
  (mapBays_core _ _).trans ((evalLines_core _).trans ((mapLanes_core _ _).trans (arbitrateAll_core _)))

/-- What an answered load does after the sections are in place keeps every part but the device state. -/
theorem loadAnswered_rest : KeptBut [.device] s.loadSections s.loadAnswered := by
  have hlatched : KeptBut [.device] s.loadSections
      (if s.loadSections.writer.dirty.isEmpty then s.loadSections else s.loadSections.latch deviceSite .storeFault) := by
    split
    · exact KeptBut.refl _
    · exact KeptBut.of_core (latch_core _ _ _)
  unfold State.loadAnswered
  dsimp only
  refine KeptBut.trans ?_ (KeptBut.of_core (settleConverter_core _))
  generalize (if s.loadSections.writer.dirty.isEmpty then s.loadSections
    else s.loadSections.latch deviceSite .storeFault) = u at hlatched ⊢
  have hstarted : KeptBut [.device] s.loadSections u.enterRunning :=
    hlatched.trans ((setDevice_kept u _).trans (KeptBut.of_core (enterRunning_core u)))
  have htriggered : KeptBut [.device] s.loadSections
      (if u.enterRunning.writer.dirty.isEmpty then u.enterRunning else u.enterRunning.trigger) := by
    split
    · exact hstarted
    · next hdirty => exact hstarted.trans (trigger_dirty_kept _ (by simpa using hdirty))
  generalize (if u.enterRunning.writer.dirty.isEmpty then u.enterRunning else u.enterRunning.trigger) = v at htriggered ⊢
  split
  · exact htriggered.trans (pfailSave_kept v)
  · exact htriggered

theorem loadAnswered_kept : KeptBut loadParts s s.loadAnswered :=
  (loadSections_kept s).trans ((loadAnswered_rest s).mono (by simp))

theorem loadFailed_kept : KeptBut loadParts s s.loadFailed := by
  unfold State.loadFailed
  dsimp only
  refine KeptBut.trans ?_ (KeptBut.of_core ((mapBays_core _ _).trans ((evalLines_core _).trans (latch_core _ _ _))))
  exact ⟨rfl, rfl, rfl, fun p hp => by cases p <;> first | rfl | simp at hp⟩

theorem loadComplete_kept (answered p c d : Bool) : KeptBut loadParts s (s.loadComplete answered p c d) := by
  unfold State.loadComplete
  split
  · split
    · exact ((setStore_kept s _).mono (by simp)).trans (loadAnswered_kept _)
    · exact loadFailed_kept s
  · exact KeptBut.refl s

/-! ### Requests -/

theorem take_kept {k : ReqKind} {act : Request → State → State} (h : ∀ r t, KeptBut ps t (act r t)) :
    KeptBut ps s (s.take k act) := by
  have hdequeued : ∀ rest, KeptBut ps s { s with requests := rest } := fun rest => KeptBut.of_frame rfl
  unfold State.take
  split
  · exact KeptBut.refl s
  · next r rest _ =>
    split
    · refine (hdequeued rest).trans ?_
      unfold State.judgeTaken
      split
      · exact KeptBut.of_core (reply_core _ _ _ _)
      · split
        · exact h _ _
        · exact KeptBut.of_core (reply_core _ _ _ _)
    · exact KeptBut.refl s

theorem takeUnknown_kept : KeptBut ps s s.takeUnknown := by
  unfold State.takeUnknown
  split
  · exact KeptBut.refl s
  · next r rest _ =>
    split
    · exact KeptBut.trans (t := { s with requests := rest }) (KeptBut.of_frame rfl) (KeptBut.of_core (reply_core _ _ _ _))
    · exact KeptBut.refl s

theorem withBay_kept (r : Request) {act : Bay → State} (h : ∀ b, KeptBut ps s (act b)) : KeptBut ps s (s.withBay r act) := by
  unfold State.withBay
  split
  · exact h _
  · exact KeptBut.of_core (reply_core _ _ _ _)

theorem reply_kept (r : Request) (res : Result) (body : List Byte) : KeptBut ps s (s.reply r res body) :=
  KeptBut.of_core (reply_core s r res body)

theorem KeptBut.thenReply {s t : State} (h : KeptBut ps s t) (r : Request) (res : Result) (body : List Byte) :
    KeptBut ps s (t.reply r res body) := h.trans (reply_kept t r res body)

theorem storeSettings_kept (c : Settings) : KeptBut [.settings] s (State.settingsChanged { s with settings := c }) :=
  (setSettings_kept s c).trans (settingsChanged_kept _)

theorem policyChanged_kept (p : Policy) : KeptBut [.policy] s (s.policyChanged p) :=
  (setPolicy_kept s p).trans ((markDirty_kept _ .policy).trans
    ((trigger_dirty_kept _ (markDirty_dirty _ _)).trans (KeptBut.of_core (evalLines_core _))))

theorem markRevoked_kept (slots : Byte) : KeptBut [.oneWay] s (s.markRevoked slots) := by
  unfold State.markRevoked
  split
  · exact setOneWay_kept s _
  · exact KeptBut.refl s

theorem revokeKey_kept (k : KeySlot) : KeptBut [.oneWay, .policy] s (s.revokeKey k) := by
  have hmark := (markRevoked_kept s (BitVec.ofNat 8 (2 ^ k.val))).mono (qs := [.oneWay, .policy]) (by simp)
  unfold State.revokeKey
  dsimp only
  split
  · exact hmark.trans ((policyChanged_kept _ _).mono (by simp))
  · exact hmark

theorem sealPolicy_kept : KeptBut [.oneWay, .policy] s s.sealPolicy :=
  ((setOneWay_kept s _).mono (by simp)).trans ((policyChanged_kept _ _).mono (by simp))

theorem setCalib_kept (b : Bay) (c : Calib) : KeptBut [.settings] s (s.setCalib b c) := by
  have hreset : KeptBut [.settings] s (((s.modBayCfg b fun x => { x with calib := c }).discardConversion b).modBay b
      fun r => { r with counter := 0, wanted := r.wanted || s.senseWants b c }) :=
    (modBayCfg_kept s b _).trans (KeptBut.of_core ((discardConversion_core _ b).trans (modBay_core _ _ _)))
  unfold State.setCalib
  dsimp only
  split
  · exact hreset
  · exact hreset.trans (KeptBut.of_core ((setRun_core _ _).trans (passCheck_core _)))

theorem clearSite_kept (site : Site) : KeptBut [.service] s (s.clearSite site) :=
  (KeptBut.of_core (t := { s with latches := put s.latches site (Vector.replicate 13 none) }) rfl).trans
    (setService_kept _ _)

theorem turnOff_kept (b : Bay) : KeptBut [.service] s (s.turnOff b) :=
  (KeptBut.of_core ((abandon_core s b).trans ((leavePhase_core _ b .off false).trans (modBay_core _ _ _)))).trans
    (clearSite_kept _ _)

theorem startRelease_core (b : Bay) (bd : Binding) (rel : Release) : CoreKept s (s.startRelease b bd rel) := by
  have hrecorded := modBinding_core s b fun x => { x with commit := { x.commit with release := some rel } }
  unfold State.startRelease
  dsimp only
  split
  · split
    · exact hrecorded.trans (completeRelease_core _ _ _ _)
    · exact hrecorded.trans (placeFinal_core _ _)
  · exact hrecorded.trans (modBay_core _ _ _)
  · exact hrecorded
  · exact hrecorded
  · exact hrecorded.trans (completeRelease_core _ _ _ _)
  · exact hrecorded.trans (completeRelease_core _ _ _ _)

theorem retryCommit_core (b : Bay) (target : Nat) : CoreKept s (s.retryCommit b target) :=
  (modBay_core s _ _).trans (changeCommit_core _ _ _)

theorem recheck_core (b : Bay) : CoreKept s (s.recheck b) :=
  (abandon_core s b).trans ((leavePhase_core _ _ _ _).trans (modBay_core _ _ _))

theorem await_kept (r : Request) (isRestart : Bool) : KeptBut ps s (s.await r isRestart) := KeptBut.of_frame rfl

/-- A RESTART's save always has TABLE to write, so that no walk ends by it (R189). -/
theorem restartSave_kept (r : Request) : KeptBut [.restarting] s (s.restartSave r) := by
  unfold State.restartSave
  dsimp only
  refine (setRestarting_kept s true).trans ((KeptBut.of_core ((evalForSave_core _).trans (shadowAll_core _))).trans ?_)
  generalize (State.evalForSave { s with restarting := true }).shadowAll = u
  refine KeptBut.trans (t := State.await { u.markDirty .table with
    save := if (u.markDirty .table).save == .saved then .saved else .saving } r true) ?_ (trigger_dirty_kept _ ?_)
  · exact KeptBut.of_frame rfl
  · exact markDirty_dirty u .table

/-! ### Frames -/

theorem frameStart_kept : KeptBut [.dozing, .frame] s s.frameStart :=
  (startFrame_kept s _ _).trans (KeptBut.of_core (settleConverter_core _))

/-- The delivery of a notice record keeps every part but the services (R162). -/
theorem deliverNotice_kept (lv : Level) (pairs : List NoticePair) : KeptBut [.service] s (s.deliverNotice lv pairs) := by
  unfold State.deliverNotice
  dsimp only
  rw [clearPairs_frame]
  exact ⟨rfl, rfl, rfl, fun p hp => by cases p <;> first | rfl | simp at hp⟩

/-- The delivery of an item keeps every part but services and doze, and a RESTART reply begins the cold start after it. -/
theorem deliverItem_kept (item : Item) :
    KeptBut [.service, .dozing, .frame] s (s.deliverItem item) ∨
      ∃ u, KeptBut [.service, .dozing, .frame] s u ∧ s.deliverItem item = coldStart u := by
  cases item with
  | idle => exact .inl (KeptBut.refl s)
  | reply r =>
    unfold State.deliverItem State.deliverReply
    dsimp only
    split
    · exact .inr ⟨_, KeptBut.of_frame rfl, rfl⟩
    · exact .inl ⟨rfl, rfl, rfl, fun p hp => by cases p <;> first | rfl | simp at hp⟩
  | notice lv pairs => exact .inl ((deliverNotice_kept s lv pairs).mono (by simp))

/-- A delivery keeps every part but services, doze and frame, and a RESTART reply begins the cold start after it. -/
theorem endFrame_kept (clocked : Nat) :
    KeptBut [.service, .dozing, .frame] s (s.endFrame clocked) ∨
      ∃ u, KeptBut [.service, .dozing, .frame] s u ∧ s.endFrame clocked = (coldStart u).settleConverter := by
  unfold State.endFrame
  split
  · exact .inl (KeptBut.refl s)
  · next f _ =>
    have hsent : KeptBut [.service, .dozing, .frame] s { s with frame := some { f with toDeliver := false } } :=
      (startFrame_kept s s.dozing _).mono (by simp)
    split
    · obtain h | ⟨u, hu, h⟩ := deliverItem_kept { s with frame := some { f with toDeliver := false } } f.item
      · exact .inl ((hsent.trans h).trans (KeptBut.of_core (settleConverter_core _)))
      · exact .inr ⟨u, hsent.trans hu, by rw [h]⟩
    · exact .inl (KeptBut.refl s)

theorem dropReservations_kept : KeptBut ps s s.dropReservations := KeptBut.of_frame rfl

theorem restoreService_kept : KeptBut [.service] s s.restoreService := by
  rw [restoreService_frame]
  exact ⟨rfl, rfl, rfl, fun p hp => by cases p <;> first | rfl | simp at hp⟩

/-- A link reset keeps every part but services, frame and status, and the RESTART reply that it removes begins the cold
start after it. -/
theorem linkReset_kept :
    KeptBut [.service, .frame, .status] s s.linkReset ∨
      ∃ u, KeptBut [.service, .frame, .status] s u ∧ s.linkReset = coldStart u := by
  have hemptied : KeptBut [.service, .frame, .status] s
      { s with requests := [], replies := [], frame := s.frame.map Frame.withdrawn } :=
    ⟨rfl, rfl, rfl, fun p hp => by cases p <;> first | rfl | simp at hp⟩
  unfold State.linkReset
  split
  · exact .inl ((outcome_kept s _).mono (by simp))
  · dsimp only
    generalize { s with requests := [], replies := [], frame := s.frame.map Frame.withdrawn } = u at hemptied ⊢
    have hreset := hemptied.trans ((dropReservations_kept u).trans
      (((restoreService_kept _).mono (by simp)).trans ((outcome_kept _ .taken).mono (by simp))))
    split
    · exact .inr ⟨_, hreset, rfl⟩
    · exact .inl hreset

theorem judgeRequest_kept (bytes : List Byte) (l : Nat) : KeptBut [.status] s (s.judgeRequest bytes l) := by
  obtain ⟨st, h⟩ | ⟨-, r, h⟩ := judgeRequest_cases s bytes l
  · rw [h]
    exact outcome_kept s st
  · rw [h]
    exact KeptBut.trans (t := { s with requests := s.requests ++ [r] }) (KeptBut.of_frame rfl) (outcome_kept _ _)

end Sys2Proof.Machine

/-! The parts of the state that each command touches, and O19. -/

namespace Sys2Proof.Machine

/-! ### The table of commands -/

/-- The parts a command can touch, beside a cold start that it may begin. -/
def touches : Instr → List Part
  | .rawPresenceChange _ _ => [.raw]
  | .pfailAssert => [.pfail]
  | .pfailDeassert => [.pfail]
  | .seal => [.oneWay, .policy]
  | .keyRevoke => [.oneWay, .policy]
  | .policySet => [.policy]
  | .storeWriteComplete _ => [.store]
  | .loadCompletion _ _ _ _ => loadParts
  | .dropsSet => [.settings]
  | .levelsSet => [.settings]
  | .senseSet => [.settings]
  | .commitSet => [.settings]
  | .slotSet => [.settings]
  | .supplySet => [.settings]
  | .routeSet => [.settings]
  | .maskSet => [.settings]
  | .bayEnable => [.settings]
  | .bayDisable => [.settings, .service]
  | .noticeDone => [.service]
  | .itemDelivery _ => [.service, .dozing, .frame]
  | .linkReset => [.service, .frame, .status]
  | .requestFrame bytes => if bytes.head? = some 0xFF then [.service, .frame, .status] else [.status]
  | .emptyFrame => [.status]
  | .frameStart => [.dozing, .frame]
  | .restart => [.restarting]
  | _ => []

/-- A cold start that began after changes of the parts listed. -/
def Restarted (ps : List Part) (s t : State) : Prop := ∃ u, KeptBut ps s u ∧ CoreKept (coldStart u) t

/-! ### Takes -/

/-- A take leaves the state, refuses the head request, or runs its action on the state without it (R172). -/
theorem take_cases (s : State) (k : ReqKind) (act : Request → State → State) :
    s.take k act = s ∨ ∃ r rest, s.requests = r :: rest ∧
      ((∃ res, s.take k act = (s.dequeued rest).reply r res []) ∨ s.take k act = act r (s.dequeued rest)) := by
  unfold State.take
  cases hreq : s.requests with
  | nil => exact .inl rfl
  | cons r rest =>
    dsimp only
    split
    · refine .inr ⟨r, rest, rfl, ?_⟩
      unfold State.judgeTaken
      split
      · exact .inl ⟨_, rfl⟩
      · split
        · exact .inr rfl
        · exact .inl ⟨_, rfl⟩
    · exact .inl rfl

theorem dequeued_kept {ps : List Part} (s : State) (rest : List Request) : KeptBut ps s (s.dequeued rest) :=
  KeptBut.of_frame rfl

/-- The take of a metering request changes its frame alone. -/
theorem take_metering (s : State) {k : ReqKind} {act : Request → State → State} (h : ∀ r t, CoreKept t (act r t)) :
    MeteringFrame s (s.take k act) := by
  obtain h' | ⟨r, rest, -, ⟨res, h'⟩ | h'⟩ := take_cases s k act
  · rw [h']
    rfl
  · rw [h']
    rfl
  · have hact := h r (s.dequeued rest)
    rw [h', hact]
    rfl

theorem withBay_core {s : State} (r : Request) {act : Bay → State} (h : ∀ b, CoreKept s (act b)) :
    CoreKept s (s.withBay r act) := by
  unfold State.withBay
  split
  · exact h _
  · exact reply_core _ _ _ _

/-! ### The actions of the commands -/

theorem thenReply_core {s t : State} (h : CoreKept s t) (r : Request) (res : Result) (body : List Byte) :
    CoreKept s (t.reply r res body) := h.trans (reply_core t r res body)

theorem closeWindow_core (s : State) (b : Bay) (level : Presence) : CoreKept s (s.closeWindow b level) := by
  unfold State.closeWindow
  dsimp only
  refine (modBay_core s b fun r => { r with filter := { level := level, window := none } }).trans ?_
  split
  · unfold State.insertion
    split
    · exact (setPhase_core _ _ _).trans ((modBay_core _ _ _).trans (latch_core _ _ _))
    · exact CoreKept.refl _
  · unfold State.removal
    split
    · exact CoreKept.refl _
    · exact (abandon_core _ _).trans ((leavePhase_core _ _ _ _).trans (latch_core _ _ _))

theorem turnOn_core (s : State) (b : Bay) : CoreKept s (s.turnOn b) := (setPhase_core s _ _).trans (modBay_core _ _ _)

theorem storeSave_kept {ps : List Part} (s : State) (r : Request) :
    KeptBut ps s (s.evalForSave.await r false).trigger.runArbiters ∨
      Restarted ps s (s.evalForSave.await r false).trigger.runArbiters := by
  have hwait : KeptBut ps s (s.evalForSave.await r false) :=
    (KeptBut.of_core (evalForSave_core s)).trans (await_kept _ r false)
  obtain h | ⟨u, hu, h⟩ := trigger_kept (ps := ps) (s.evalForSave.await r false)
  · exact .inl ((hwait.trans h).trans (KeptBut.of_core (runArbiters_core _)))
  · exact .inr ⟨u, hwait.trans hu, h ▸ runArbiters_core _⟩

theorem rawPresenceChange_kept (s : State) (b : Bay) (lv : Presence) :
    KeptBut [.raw] s
      (if s.raw[b] = lv then s else State.modBay { s with raw := put s.raw b lv } b fun r => r.rawChange lv) := by
  split
  · exact KeptBut.refl s
  · exact (setRaw_kept s _).trans (KeptBut.of_core (modBay_core _ _ _))

theorem requestFrame_kept (s : State) (bytes : List Byte) {t : State} (h : exec (.requestFrame bytes) s = .next t) :
    KeptBut (touches (.requestFrame bytes)) s t ∨
      MayRestart (.requestFrame bytes) ∧ Restarted (touches (.requestFrame bytes)) s t := by
  have hstatus : [Part.status] ⊆ touches (.requestFrame bytes) := by
    show [Part.status] ⊆ if bytes.head? = some 0xFF then [.service, .frame, .status] else [.status]
    split <;> simp
  obtain rfl := Host.Outcome.next.inj h
  cases bytes with
  | nil => exact .inl ((outcome_kept s _).mono hstatus)
  | cons l tail =>
    dsimp only
    split
    · exact .inl ((outcome_kept s _).mono hstatus)
    · split
      · next hl =>
        subst hl
        have hparts : touches (.requestFrame (0xFF :: tail)) = [.service, .frame, .status] := rfl
        rw [hparts]
        obtain h | ⟨u, hu, h⟩ := linkReset_kept s
        · exact .inl h
        · exact .inr ⟨by simp [MayRestart], u, hu, h ▸ CoreKept.refl _⟩
      · exact .inl ((judgeRequest_kept s _ _).mono hstatus)

/-- A command keeps every part but those listed for it, unless it begins a cold start. -/
theorem exec_kept (s : State) {c : Instr} {t : State} (h : exec c s = .next t) :
    KeptBut (touches c) s t ∨ MayRestart c ∧ Restarted (touches c) s t := by
  have hnext : ∀ {ps : List Part} u, (Host.Outcome.next u : Host.Outcome State Fault Refusal) = .next t →
      KeptBut ps s u → KeptBut ps s t ∨ MayRestart c ∧ Restarted ps s t :=
    fun u hu hk => .inl (Host.Outcome.next.inj hu ▸ hk)
  have hcore : ∀ {ps : List Part} u, (Host.Outcome.next u : Host.Outcome State Fault Refusal) = .next t →
      CoreKept s u → KeptBut ps s t ∨ MayRestart c ∧ Restarted ps s t :=
    fun u hu hk => hnext u hu (KeptBut.of_core hk)
  cases c with
  | frameStart => exact hnext _ h (frameStart_kept s)
  | itemDelivery n =>
    obtain rfl := Host.Outcome.next.inj h
    obtain hk | ⟨u, hu, hk⟩ := endFrame_kept s n
    · exact .inl hk
    · exact .inr ⟨by simp [MayRestart], u, hu, hk ▸ settleConverter_core _⟩
  | emptyFrame => exact hnext _ h (outcome_kept s _)
  | linkReset =>
    obtain rfl := Host.Outcome.next.inj h
    obtain hk | ⟨u, hu, hk⟩ := linkReset_kept s
    · exact .inl hk
    · exact .inr ⟨by simp [MayRestart], u, hu, hk ▸ CoreKept.refl _⟩
  | requestFrame bytes => exact requestFrame_kept s bytes h
  | unknownKind => exact hnext _ h (takeUnknown_kept s)
  | statusGet => exact hnext _ h (take_kept s fun r t => reply_kept t _ _ _)
  | bayGet => exact hnext _ h (take_kept s fun r t => withBay_kept t r fun b => reply_kept t _ _ _)
  | meterGet =>
    refine hnext _ h (take_kept s fun r t => withBay_kept t r fun b => ?_)
    split <;> exact reply_kept t _ _ _
  | tableGet =>
    refine hnext _ h (take_kept s fun r t => ?_)
    split <;> exact reply_kept t _ _ _
  | tally =>
    refine hnext _ h (take_kept s fun r t => ?_)
    split
    · exact reply_kept t _ _ _
    · exact KeptBut.of_core (thenReply_core (applyTally_core t _) _ _ _)
  | purgeReport =>
    exact hnext _ h (take_kept s fun r t => withBay_kept t r fun b =>
      KeptBut.of_core (thenReply_core (applyPurge_core t b _) _ _ _))
  | returnReport =>
    refine hnext _ h (take_kept s fun r t => withBay_kept t r fun b => ?_)
    split
    · exact reply_kept t _ _ _
    · exact KeptBut.of_core (thenReply_core (applyReturn_core t b _ _) _ _ _)
  | dropsSet =>
    exact hnext _ h (take_kept s fun r t => withBay_kept t r fun b => (storeSettings_kept t _).thenReply _ _ _)
  | levelsSet =>
    exact hnext _ h (take_kept s fun r t => withBay_kept t r fun b =>
      (((KeptBut.of_core (modBay_core t b _)).trans (modBayCfg_kept _ b _)).trans
        ((KeptBut.of_core (evalLine_core _ b)).trans (settingsChanged_kept _))).thenReply _ _ _)
  | senseSet =>
    exact hnext _ h (take_kept s fun r t => withBay_kept t r fun b =>
      ((setCalib_kept t b _).trans ((settingsChanged_kept _).trans
        (KeptBut.of_core (settleConverter_core _)))).thenReply _ _ _)
  | commitSet =>
    exact hnext _ h (take_kept s fun r t => withBay_kept t r fun b =>
      ((storeSettings_kept t _).trans (KeptBut.of_core ((evalStep_core _ b).trans (runArbiters_core _)))).thenReply _ _ _)
  | slotSet =>
    exact hnext _ h (take_kept s fun r t => withBay_kept t r fun b => (storeSettings_kept t _).thenReply _ _ _)
  | supplySet => exact hnext _ h (take_kept s fun r t => (storeSettings_kept t _).thenReply _ _ _)
  | routeSet =>
    refine hnext _ h (take_kept s fun r t => ?_)
    split
    · exact (storeSettings_kept t _).thenReply _ _ _
    all_goals exact reply_kept t _ _ _
  | maskSet => exact hnext _ h (take_kept s fun r t => (storeSettings_kept t _).thenReply _ _ _)
  | policySet =>
    refine hnext _ h (take_kept s fun r t => ?_)
    split
    · split
      · exact reply_kept t _ _ _
      · exact (policyChanged_kept t _).thenReply _ _ _
    · exact reply_kept t _ _ _
  | keyRevoke =>
    refine hnext _ h (take_kept s fun r t => ?_)
    split
    · exact (revokeKey_kept t _).thenReply _ _ _
    · exact reply_kept t _ _ _
  | bayRecheck =>
    refine hnext _ h (take_kept s fun r t => withBay_kept t r fun b => ?_)
    split
    · exact KeptBut.of_core (thenReply_core ((recheck_core t b).trans (runArbiters_core _)) _ _ _)
    · exact reply_kept t _ _ _
  | bayRelease =>
    refine hnext _ h (take_kept s fun r t => withBay_kept t r fun b => ?_)
    split
    · exact reply_kept t _ _ _
    · split
      · exact reply_kept t _ _ _
      · exact KeptBut.of_core ((startRelease_core t b _ _).trans (runArbiters_core _))
  | bayDisable =>
    refine hnext _ h (take_kept s fun r t => withBay_kept t r fun b => ?_)
    split
    · exact reply_kept t _ _ _
    · refine KeptBut.thenReply ?_ _ _ _
      exact ((turnOff_kept t b).mono (by simp [touches])).trans (((storeSettings_kept _ _).mono (by simp [touches])).trans
        (KeptBut.of_core (settleConverter_core _)))
  | bayEnable =>
    refine hnext _ h (take_kept s fun r t => withBay_kept t r fun b => ?_)
    split
    · exact ((KeptBut.of_core (turnOn_core t b)).trans (storeSettings_kept _ _)).thenReply _ _ _
    · exact reply_kept t _ _ _
  | commitRetry =>
    refine hnext _ h (take_kept s fun r t => withBay_kept t r fun b => ?_)
    split
    · exact KeptBut.of_core (thenReply_core ((retryCommit_core t b _).trans (runArbiters_core _)) _ _ _)
    · exact reply_kept t _ _ _
  | surveyRun =>
    refine hnext _ h (take_kept s fun r t => ?_)
    split
    · exact reply_kept t _ _ _
    · exact KeptBut.of_core ((setRun_core t _).trans ((startPasses_core _ _).trans (settleConverter_core _)))
  | storeSave =>
    obtain rfl := Host.Outcome.next.inj h
    obtain hk | ⟨r, rest, -, ⟨res, hk⟩ | hk⟩ := take_cases s .storeSave
      fun r t => (t.evalForSave.await r false).trigger.runArbiters
    · exact .inl (by rw [hk]; exact KeptBut.refl s)
    · exact .inl (by rw [hk]; exact (dequeued_kept s rest).thenReply _ _ _)
    · rw [hk]
      obtain hsave | ⟨u, hu, hsave⟩ := storeSave_kept (ps := touches .storeSave) (s.dequeued rest) r
      · exact .inl ((dequeued_kept s rest).trans hsave)
      · exact .inr ⟨by simp [MayRestart], u, (dequeued_kept s rest).trans hu, hsave⟩
  | restart =>
    refine hnext _ h (take_kept s fun r t => ?_)
    split
    · exact reply_kept t _ _ _
    · split
      · exact reply_kept t _ _ _
      · exact (restartSave_kept t r).trans (KeptBut.of_core (runArbiters_core _))
  | doze => exact hnext _ h (take_kept s fun r t => reply_kept t _ _ _)
  | noticeDone =>
    refine hnext _ h (take_kept s fun r t => ?_)
    split
    · exact reply_kept t _ _ _
    · split
      · exact (setService_kept t _).thenReply _ _ _
      · exact reply_kept t _ _ _
  | rawPresenceChange b level => exact hnext _ h (rawPresenceChange_kept s b level)
  | presenceWindowExpiry b =>
    refine hcore _ h ?_
    split
    · exact CoreKept.refl s
    · split
      · exact (closeWindow_core s b _).trans (runArbiters_core _)
      · exact CoreKept.refl s
  | tagReply l bytes => exact hcore _ h ((tagReply_core s l bytes).trans (settleConverter_core _))
  | replyTimerExpiry l => exact hcore _ h ((replyExpiry_core s l).trans (settleConverter_core _))
  | holdLimitExpiry b => exact hcore _ h (modBay_core s b _)
  | surveyTimerExpiry b =>
    refine hcore _ h ?_
    split
    · exact CoreKept.refl s
    · split
      · exact (modBay_core s b _).trans (settleConverter_core _)
      · exact CoreKept.refl s
  | supplyTimerExpiry l =>
    refine hcore _ h ?_
    split
    · exact CoreKept.refl s
    · split
      · exact settleConverter_core s
      · exact CoreKept.refl s
  | conversionComplete raw => exact hcore _ h (conversionComplete_core s _)
  | storeWriteComplete ok =>
    obtain rfl := Host.Outcome.next.inj h
    obtain hk | ⟨u, hu, hk⟩ := writeComplete_kept s ok
    · exact .inl hk
    · exact .inr ⟨by simp [MayRestart], u, hu, hk ▸ CoreKept.refl _⟩
  | pfailAssert => exact hnext _ h ((setPfail_kept s true).trans (pfailSave_kept _))
  | pfailDeassert => exact hnext _ h ((setPfail_kept s false).trans (pfailEnd_kept _))
  | powerOn =>
    obtain rfl := Host.Outcome.next.inj h
    exact .inr ⟨by simp [MayRestart], s, KeptBut.refl s, CoreKept.refl _⟩
  | resetPin =>
    obtain rfl := Host.Outcome.next.inj h
    exact .inr ⟨by simp [MayRestart], s, KeptBut.refl s, CoreKept.refl _⟩
  | loadCompletion a p q d => exact hnext _ h (loadComplete_kept s a p q d)
  | laneCommandEnd l => exact hcore _ h ((commandEnd_core s l).trans (settleConverter_core _))
  -- SEAL: the command's name is a word of the language, so its case is the one that is left
  | _ =>
    refine hnext _ h (take_kept s fun r t => ?_)
    split
    · exact reply_kept t _ _ _
    · exact (sealPolicy_kept t).thenReply _ _ _

/-! ### What the table says of each part -/

section

variable {c : Instr}

theorem raw_not_touched (h : ∀ b lv, c ≠ .rawPresenceChange b lv) : Part.raw ∉ touches c := by
  cases c with
  | requestFrame bytes =>
    simp only [touches]
    split
    all_goals simp
  | _ => simp_all [touches, loadParts]

theorem pfail_not_touched (h : c ≠ .pfailAssert) (h' : c ≠ .pfailDeassert) : Part.pfail ∉ touches c := by
  cases c with
  | requestFrame bytes =>
    simp only [touches]
    split
    all_goals simp
  | _ => simp_all [touches, loadParts]

theorem oneWay_not_touched (h : c ≠ .seal) (h' : c ≠ .keyRevoke) : Part.oneWay ∉ touches c := by
  cases c with
  | requestFrame bytes =>
    simp only [touches]
    split
    all_goals simp
  | _ => simp_all [touches, loadParts]

theorem store_not_touched (h : ∀ ok, c ≠ .storeWriteComplete ok) (h' : ∀ a p q d, c ≠ .loadCompletion a p q d) :
    Part.store ∉ touches c := by
  cases c with
  | loadCompletion a p q d => exact absurd rfl (h' a p q d)
  | requestFrame bytes =>
    simp only [touches]
    split
    all_goals simp
  | _ => simp_all [touches]

theorem device_not_touched (h : ∀ a p q d, c ≠ .loadCompletion a p q d) : Part.device ∉ touches c := by
  cases c with
  | loadCompletion a p q d => exact absurd rfl (h a p q d)
  | requestFrame bytes =>
    simp only [touches]
    split
    all_goals simp
  | _ => simp_all [touches]

theorem restarting_not_touched (h : c ≠ .restart) : Part.restarting ∉ touches c := by
  cases c with
  | requestFrame bytes =>
    simp only [touches]
    split
    all_goals simp
  | _ => simp_all [touches, loadParts]

theorem policy_not_touched (hl : ∀ a p q d, c ≠ .loadCompletion a p q d) (h : c ≠ .policySet) (h' : c ≠ .keyRevoke)
    (h'' : c ≠ .seal) : Part.policy ∉ touches c := by
  cases c with
  | loadCompletion a p q d => exact absurd rfl (hl a p q d)
  | requestFrame bytes =>
    simp only [touches]
    split
    all_goals simp
  | _ => simp_all [touches]

theorem settings_not_touched (hl : ∀ a p q d, c ≠ .loadCompletion a p q d) (h : ¬WritesSettings c) :
    Part.settings ∉ touches c := by
  cases c with
  | loadCompletion a p q d => exact absurd rfl (hl a p q d)
  | requestFrame bytes =>
    simp only [touches]
    split
    all_goals simp
  | _ => simp_all [touches, WritesSettings]

theorem service_not_touched (h : c ≠ .noticeDone) (h' : c ≠ .bayDisable) (hd : ∀ n, c ≠ .itemDelivery n)
    (hr : ¬ResetsLink c) : Part.service ∉ touches c := by
  cases c with
  | requestFrame bytes =>
    simp only [touches]
    split
    · next hhead =>
      obtain ⟨tail, rfl⟩ := List.head?_eq_some_iff.mp hhead
      exact absurd (.inr ⟨tail, rfl⟩) hr
    · simp
  | _ => simp_all [touches, loadParts, ResetsLink]

theorem dozing_not_touched (h : c ≠ .frameStart) (hd : ∀ n, c ≠ .itemDelivery n) : Part.dozing ∉ touches c := by
  cases c with
  | requestFrame bytes =>
    simp only [touches]
    split
    all_goals simp
  | _ => simp_all [touches, loadParts]

theorem frame_not_touched (h : c ≠ .frameStart) (hd : ∀ n, c ≠ .itemDelivery n) (hr : ¬ResetsLink c) :
    Part.frame ∉ touches c := by
  cases c with
  | requestFrame bytes =>
    simp only [touches]
    split
    · next hhead =>
      obtain ⟨tail, rfl⟩ := List.head?_eq_some_iff.mp hhead
      exact absurd (.inr ⟨tail, rfl⟩) hr
    · simp
  | _ => simp_all [touches, loadParts, ResetsLink]

theorem status_not_touched (h : c ≠ .emptyFrame) (h' : c ≠ .linkReset) (hf : ∀ bytes, c ≠ .requestFrame bytes) :
    Part.status ∉ touches c := by
  cases c <;> simp_all [touches, loadParts]

end

/-! ### O19 -/

/-- A load completion outside STARTING changes nothing (R185). -/
theorem exec_loadCompletion_started {s t : State} {a p q d : Bool} (h : s.device ≠ .starting)
    (hexec : exec (.loadCompletion a p q d) s = .next t) : t = s := by
  obtain rfl := Host.Outcome.next.inj hexec
  simp [State.loadComplete, h]

/-- The metering requests change their frame alone. -/
theorem exec_metering {s t : State} {c : Instr} (hc : c = .tally ∨ c = .purgeReport ∨ c = .returnReport)
    (h : exec c s = .next t) : MeteringFrame s t := by
  obtain rfl | rfl | rfl := hc
  · obtain rfl := Host.Outcome.next.inj h
    refine take_metering s fun r u => ?_
    split
    · exact reply_core u _ _ _
    · exact thenReply_core (applyTally_core u _) _ _ _
  · obtain rfl := Host.Outcome.next.inj h
    exact take_metering s fun r u => withBay_core r fun b => thenReply_core (applyPurge_core u b _) _ _ _
  · obtain rfl := Host.Outcome.next.inj h
    refine take_metering s fun r u => withBay_core r fun b => ?_
    split
    · exact reply_core u _ _ _
    · exact thenReply_core (applyReturn_core u b _ _) _ _ _

/-- The parts that a cold start keeps too. -/
theorem Restarted.same {ps : List Part} {s t : State} (h : Restarted ps s t) :
    t.pending = s.pending ∧ t.now = s.now ∧ t.masterKeys = s.masterKeys ∧ t.device = .starting ∧
      (Part.raw ∉ ps → t.raw = s.raw) ∧ (Part.pfail ∉ ps → t.pfail = s.pfail) ∧
      (Part.oneWay ∉ ps → t.oneWay = s.oneWay) ∧ (Part.store ∉ ps → t.store = s.store) := by
  obtain ⟨u, hu, ht⟩ := h
  exact ⟨ht.pending.trans hu.pending, ht.now.trans hu.now, ht.masterKeys.trans hu.masterKeys, ht.device,
    fun hp => ht.raw.trans (hu.parts _ hp), fun hp => ht.pfail.trans (hu.parts _ hp),
    fun hp => ht.oneWay.trans (hu.parts _ hp), fun hp => ht.store.trans (hu.parts _ hp)⟩

/-- Settles O19, by the table of the parts that each command touches. -/
theorem commandsKeepTheRest : Obligations.CommandsKeepTheRest := by
  refine ⟨fun s t c hc h => exec_metering hc h, fun s t c h => ?_⟩
  obtain hk | ⟨hmay, hk⟩ := exec_kept s h
  · refine ⟨hk.pending, hk.now, hk.masterKeys, fun hc => hk.parts .raw (raw_not_touched hc),
      fun hc hc' => hk.parts .pfail (pfail_not_touched hc hc'), fun hc hc' => hk.parts .oneWay (oneWay_not_touched hc hc'),
      fun hc hc' => hk.parts .store (store_not_touched hc hc'), fun hstay => ?_⟩
    by_cases hload : ∃ a p q d, c = .loadCompletion a p q d
    · obtain ⟨a, p, q, d, rfl⟩ := hload
      have hs : s.device ≠ .starting := hstay.elim (fun hno => absurd (by simp [MayRestart]) hno) fun hd => hd.1
      obtain rfl := exec_loadCompletion_started hs h
      simp
    · have hload' : ∀ a p q d, c ≠ .loadCompletion a p q d := fun a p q d hc => hload ⟨a, p, q, d, hc⟩
      exact ⟨hk.parts .device (device_not_touched hload'), fun hc => hk.parts .restarting (restarting_not_touched hc),
        fun hc hc' hc'' => hk.parts .policy (policy_not_touched hload' hc hc' hc''),
        fun hc => hk.parts .settings (settings_not_touched hload' hc),
        fun hc hc' hd hr => hk.parts .service (service_not_touched hc hc' hd hr),
        fun hc hd => ⟨hk.parts .dozing (dozing_not_touched hc hd), fun hr => hk.parts .frame (frame_not_touched hc hd hr)⟩,
        fun hc hc' hf => hk.parts .status (status_not_touched hc hc' hf)⟩
  · obtain ⟨hpending, hnow, hkeys, hdevice, hraw, hpfail, honeWay, hstore⟩ := hk.same
    exact ⟨hpending, hnow, hkeys, fun hc => hraw (raw_not_touched hc), fun hc hc' => hpfail (pfail_not_touched hc hc'),
      fun hc hc' => honeWay (oneWay_not_touched hc hc'), fun hc hc' => hstore (store_not_touched hc hc'),
      fun hstay => hstay.elim (fun hno => absurd hmay hno) fun hd => absurd hdevice hd.2⟩

end Sys2Proof.Machine

/-! The one-way area and the sealed policy: O31. -/

namespace Sys2Proof.Machine

/-- What every step keeps of the one-way area and of a sealed policy (R184, R190). -/
def SealStep (s t : State) : Prop :=
  s.oneWay.LeadsTo t.oneWay ∧ (SealHolds s → SealHolds t) ∧
    (s.device ≠ .starting → t.device ≠ .starting → s.policy.isSealed = true →
      t.policy = { s.policy with allowed := t.policy.allowed } ∧ t.policy.allowed &&& ~~~s.policy.allowed = 0)

theorem byte_sub_or (a b : BitVec 8) : a &&& ~~~(a ||| b) = 0 := by
  ext i
  simp
  grind

theorem byte_and_sub (a b : BitVec 8) : (a &&& b) &&& ~~~a = 0 := by
  ext i
  simp
  grind

theorem leadsTo_refl (o : OneWay) : o.LeadsTo o := ⟨id, by simp⟩

/-- A step that changes neither device state, one-way area nor policy. -/
theorem sealStep_of_same {s t : State} (hd : t.device = s.device) (ho : t.oneWay = s.oneWay) (hp : t.policy = s.policy) :
    SealStep s t := by
  refine ⟨ho ▸ leadsTo_refl _, fun h => ?_, fun _ _ _ => ?_⟩
  · unfold SealHolds
    rw [hd, ho, hp]
    exact h
  · rw [hp]
    exact ⟨rfl, by simp⟩

theorem sealStep_of_kept {ps : List Part} {s t : State} (h : KeptBut ps s t) (hd : Part.device ∉ ps)
    (ho : Part.oneWay ∉ ps) (hp : Part.policy ∉ ps) : SealStep s t :=
  sealStep_of_same (h.parts .device hd) (h.parts .oneWay ho) (h.parts .policy hp)

/-- A step into STARTING needs the marks alone. -/
theorem sealStep_of_starting {s t : State} (hd : t.device = .starting) (ho : s.oneWay.LeadsTo t.oneWay) : SealStep s t :=
  ⟨ho, fun _ hno => absurd hd hno, fun _ hno => absurd hd hno⟩

theorem sealStep_take (s : State) {k : ReqKind} {act : Request → State → State} (h : ∀ r u, SealStep u (act r u)) :
    SealStep s (s.take k act) := by
  obtain h' | ⟨r, rest, -, ⟨res, h'⟩ | h'⟩ := take_cases s k act
  · rw [h']
    exact sealStep_of_same rfl rfl rfl
  · rw [h']
    exact sealStep_of_same rfl rfl rfl
  · rw [h']
    exact h r (s.dequeued rest)

/-! ### Policies -/

/-- A change of the policy sets it, and the one-way area and the device state stay (R190). -/
theorem policyChanged_parts (s : State) (p : Policy) :
    (s.policyChanged p).policy = p ∧ (s.policyChanged p).oneWay = s.oneWay ∧ (s.policyChanged p).device = s.device := by
  have hkept : KeptBut [] ({ s with policy := p } : State) (s.policyChanged p) :=
    (markDirty_kept _ .policy).trans ((trigger_dirty_kept _ (markDirty_dirty _ _)).trans
      (KeptBut.of_core (evalLines_core _)))
  exact ⟨hkept.parts .policy (by simp), hkept.parts .oneWay (by simp), hkept.parts .device (by simp)⟩

/-- SEAL seals the policy and only adds marks (R190). -/
theorem sealPolicy_step (s : State) (h : s.policy.isSealed = false) : SealStep s s.sealPolicy := by
  obtain ⟨hp, ho, hd⟩ := policyChanged_parts
    { s with oneWay := { sealMark := true, revoked := s.oneWay.revoked ||| ~~~s.policy.allowed } }
    { s.policy with isSealed := true }
  refine ⟨?_, fun _ _ _ => congrArg Policy.isSealed hp, fun _ _ hsealed => absurd hsealed (by simp [h])⟩
  show s.oneWay.LeadsTo (State.policyChanged _ _).oneWay
  rw [ho]
  exact ⟨fun _ => rfl, byte_sub_or _ _⟩

/-- KEY_REVOKE's mark (R190). -/
theorem markRevoked_oneWay (s : State) (slots : Byte) :
    (s.markRevoked slots).oneWay.sealMark = s.oneWay.sealMark ∧ s.oneWay.LeadsTo (s.markRevoked slots).oneWay := by
  unfold State.markRevoked
  split
  · exact ⟨rfl, id, byte_sub_or _ _⟩
  · exact ⟨rfl, leadsTo_refl _⟩

theorem markRevoked_frame (s : State) (slots : Byte) :
    s.markRevoked slots = { s with oneWay := (s.markRevoked slots).oneWay } := by
  unfold State.markRevoked
  split <;> rfl

/-- KEY_REVOKE takes an index out of the allowed key set, and changes no other part of the policy (R190). -/
theorem revokeKey_policy (s : State) (k : KeySlot) :
    (s.revokeKey k).policy =
      { s.policy with allowed := s.policy.allowed &&& ~~~(BitVec.ofNat 8 (2 ^ k.val)) } ∨
      (s.revokeKey k).policy = s.policy := by
  unfold State.revokeKey
  dsimp only
  split
  · refine .inl ((policyChanged_parts _ _).1.trans ?_)
    rw [markRevoked_frame]
  · exact .inr (by rw [markRevoked_frame])

theorem revokeKey_parts (s : State) (k : KeySlot) :
    (s.revokeKey k).oneWay = (s.markRevoked (BitVec.ofNat 8 (2 ^ k.val))).oneWay ∧ (s.revokeKey k).device = s.device := by
  have hdevice : (s.markRevoked (BitVec.ofNat 8 (2 ^ k.val))).device = s.device := by rw [markRevoked_frame]
  unfold State.revokeKey
  dsimp only
  split
  · obtain ⟨-, ho, hd⟩ := policyChanged_parts (s.markRevoked (BitVec.ofNat 8 (2 ^ k.val)))
      { (s.markRevoked (BitVec.ofNat 8 (2 ^ k.val))).policy with
        allowed := (s.markRevoked (BitVec.ofNat 8 (2 ^ k.val))).policy.allowed &&& ~~~(BitVec.ofNat 8 (2 ^ k.val)) }
    exact ⟨ho, hd.trans hdevice⟩
  · exact ⟨rfl, hdevice⟩

theorem revokeKey_step (s : State) (k : KeySlot) : SealStep s (s.revokeKey k) := by
  obtain ⟨ho, hd⟩ := revokeKey_parts s k
  obtain ⟨hmark, hleads⟩ := markRevoked_oneWay s (BitVec.ofNat 8 (2 ^ k.val))
  have hpolicy : (s.revokeKey k).policy = { s.policy with allowed := (s.revokeKey k).policy.allowed } ∧
      (s.revokeKey k).policy.allowed &&& ~~~s.policy.allowed = 0 := by
    obtain h | h := revokeKey_policy s k
    · rw [h]
      exact ⟨rfl, byte_and_sub _ _⟩
    · rw [h]
      exact ⟨rfl, by simp⟩
  refine ⟨ho ▸ hleads, fun h hstart hseal => ?_, fun _ _ _ => hpolicy⟩
  rw [hpolicy.1]
  exact h (hd ▸ hstart) (hmark ▸ ho ▸ hseal)

/-- POLICY_SET acts on an unsealed policy alone (R190). -/
theorem policyChanged_step (s : State) (p : Policy) (h : s.policy.isSealed = false) : SealStep s (s.policyChanged p) := by
  obtain ⟨-, ho, hd⟩ := policyChanged_parts s p
  refine ⟨ho ▸ leadsTo_refl _, fun hholds hstart hseal => ?_, fun _ _ hsealed => absurd hsealed (by simp [h])⟩
  have hsealed := hholds (hd ▸ hstart) (ho ▸ hseal)
  exact absurd hsealed (by simp [h])

/-! ### The load -/

/-- A load obeys the seal mark (R184). -/
theorem loadComplete_step (s : State) (a p q d : Bool) : SealStep s (s.loadComplete a p q d) := by
  unfold State.loadComplete
  split
  · next hs =>
    have hs' : s.device = .starting := by simpa using hs
    have hload : ∀ t : State, t.oneWay = s.oneWay → (s.oneWay.sealMark = true → t.policy.isSealed = true) → SealStep s t :=
      fun t ho hp => ⟨ho ▸ leadsTo_refl _, fun _ _ hm => hp (ho ▸ hm), fun hno => absurd hs' hno⟩
    split
    · have hkept := loadAnswered_rest { s with store := s.store.damaged p q d }
      refine hload _ (hkept.parts .oneWay (by simp)) fun hm => ?_
      rw [show (State.loadAnswered _).policy = _ from hkept.parts .policy (by simp)]
      show (_ || s.oneWay.sealMark) = true
      rw [hm, Bool.or_true]
    · refine hload _ ((loadFailed_kept s).parts .oneWay (by simp)) fun hm => ?_
      have hpolicy : s.loadFailed.policy = (Policy.strict s.oneWay).underMarks s.oneWay := by
        unfold State.loadFailed
        dsimp only
        rw [latch_frame]
        rfl
      rw [hpolicy]
      rfl
  · exact sealStep_of_same rfl rfl rfl

/-! ### O31 -/

theorem exec_sealStep (s : State) {c : Instr} {t : State} (h : exec c s = .next t) : SealStep s t := by
  by_cases hload : ∃ a p q d, c = .loadCompletion a p q d
  · obtain ⟨a, p, q, d, rfl⟩ := hload
    exact Host.Outcome.next.inj h ▸ loadComplete_step s a p q d
  by_cases hset : c = .policySet
  · subst hset
    refine Host.Outcome.next.inj h ▸ sealStep_take s fun r u => ?_
    split
    · split
      · exact sealStep_of_same rfl rfl rfl
      · next hopen => exact policyChanged_step u _ (by simpa using hopen)
    · exact sealStep_of_same rfl rfl rfl
  by_cases hrevoke : c = .keyRevoke
  · subst hrevoke
    refine Host.Outcome.next.inj h ▸ sealStep_take s fun r u => ?_
    split
    · exact revokeKey_step u _
    · exact sealStep_of_same rfl rfl rfl
  by_cases hseal : c = .seal
  · subst hseal
    refine Host.Outcome.next.inj h ▸ sealStep_take s fun r u => ?_
    split
    · exact sealStep_of_same rfl rfl rfl
    · next hopen => exact sealPolicy_step u (by simpa using hopen)
  have hload' : ∀ a p q d, c ≠ .loadCompletion a p q d := fun a p q d hc => hload ⟨a, p, q, d, hc⟩
  have honeWay := oneWay_not_touched hseal hrevoke
  obtain hk | ⟨-, hk⟩ := exec_kept s h
  · exact sealStep_of_kept hk (device_not_touched hload') honeWay (policy_not_touched hload' hset hrevoke hseal)
  · obtain ⟨-, -, -, hdevice, -, -, ho, -⟩ := hk.same
    exact sealStep_of_starting hdevice (ho honeWay ▸ leadsTo_refl _)

/-- A tick changes the clock, the queue of commands, bays and lanes alone. -/
theorem tick_frame (s : State) :
    s.tick = { s with now := s.now + 1, pending := s.tick.pending, bays := s.tick.bays, lanes := s.tick.lanes } := by
  unfold State.tick
  rfl

/-- Settles O31: only SEAL and KEY_REVOKE write the one-way area, and only a load replaces a sealed policy. -/
theorem sealIsOneWay : Obligations.SealIsOneWay := by
  intro s t h
  obtain rfl | ⟨c, rest, -, hexec⟩ := step_cases s h
  · rw [tick_frame]
    exact sealStep_of_same rfl rfl rfl
  · exact exec_sealStep { s with pending := rest } hexec

end Sys2Proof.Machine

/-! Steps, reset and cold start: O1, O2, O3 and O4. -/

namespace Sys2Proof.Machine

/-- Settles O1. -/
theorem stepRunsFrontCommand : Obligations.StepRunsFrontCommand := fun _ _ _ => rfl

/-! ### Cold start and reset (R185) -/

/-- Every place of a replicated list holds the value. -/
theorem get_replicate {α : Type} {n : Nat} (x : α) (i : Fin n) : (Vector.replicate n x)[i] = x := by
  simp

theorem coldStart_bay (s : State) (b : Bay) : (coldStart s).bay b = BayRec.cold := get_replicate _ b

theorem coldStart_lane (s : State) (l : Lane) : (coldStart s).lane l = LaneRec.cold := get_replicate _ l

theorem coldStart_latchOf (s : State) (site : Site) (k : Fin 13) : (coldStart s).latchOf site k = none := by
  show (Vector.replicate 16 (Vector.replicate 13 (none : Option Level)))[site][k] = none
  rw [get_replicate, get_replicate]

theorem coldStart_service (s : State) (lv : Level) : (coldStart s).service[lv] = none := get_replicate _ lv

theorem reset_bay (b : Bay) : State.reset.bay b = BayRec.cold := get_replicate _ b

theorem reset_lane (l : Lane) : State.reset.lane l = LaneRec.cold := get_replicate _ l

/-- Settles O3. -/
theorem coldStartClears : Obligations.ColdStartClears := by
  intro s c hc
  refine ⟨coldStart s, by obtain rfl | rfl := hc <;> rfl, rfl, rfl, rfl, rfl, rfl, rfl, fun b => ?_, fun l => ?_, rfl, rfl,
    coldStart_latchOf s, coldStart_service s, rfl, rfl, rfl, rfl, rfl, rfl, rfl, rfl, rfl, rfl⟩
  · rw [coldStart_bay]
    exact ⟨rfl, rfl, rfl, rfl, rfl, rfl, rfl, rfl, rfl⟩
  · rw [coldStart_lane]
    exact ⟨rfl, rfl, rfl, rfl, rfl, rfl⟩

/-- The state right after reset binds no bay. -/
theorem reset_unbound (b : Bay) : (State.reset.bay b).phase.binding? = none := by
  rw [reset_bay]
  rfl

theorem reset_tableConsistent : TableConsistent State.reset := by
  have hshaped : TableShaped State.reset.table := ⟨by decide, List.nodup_nil⟩
  have hentries : EntriesNameBindings State.reset := fun e he => absurd he List.not_mem_nil
  have hbindings : BindingsHaveEntries State.reset := fun b bd hb => absurd ((reset_unbound b).symm.trans hb) (by simp)
  have hrunning : ∀ l, (State.reset.lane l).running = none := fun l => by rw [reset_lane]; rfl
  have hreads : RecordReadsIdentify State.reset := fun l r hr => absurd ((hrunning l).symm.trans hr) (by simp)
  refine ⟨hshaped, hentries, hbindings, ⟨fun b _ => reset_unbound b, fun l r _ _ _ => reset_unbound _⟩, hreads,
    fun _ => ⟨fun b => ?_, hrunning⟩, fun _ => rfl⟩
  rw [reset_bay]
  exact ⟨rfl, rfl⟩

/-- Settles O4. -/
theorem resetMeetsInvariants : Obligations.ResetMeetsInvariants := by
  refine ⟨rfl, rfl, rfl, fun b hb => ?_, fun b bd hb => ?_, ⟨by decide, ?_⟩, reset_tableConsistent, fun h => absurd rfl h⟩
  · rw [reset_bay] at hb
    exact nomatch hb
  · rw [reset_unbound] at hb
    exact nomatch hb
  · simp [State.reservations, BayRec.release?, reset_unbound]
    decide

/-! ### Ticks (R3) -/

/-- The state one ms later, before the expiries are queued. -/
def State.later (s : State) : State :=
  ({ s with now := s.now + 1 }.mapBays fun b r => r.tick (s.bayCfg b).calib.period).mapLanes fun _ r => r.tick

theorem tick_eq (s : State) :
    s.tick = { s.later with pending := allBays.flatMap s.later.bayExpiries ++ allLanes.flatMap s.later.laneExpiries } := rfl

theorem later_bay (s : State) (b : Bay) : s.later.bay b = (s.bay b).tick (s.bayCfg b).calib.period := by
  unfold State.later
  rw [mapLanes_bay, bay_mapBays]
  rfl

theorem later_lane (s : State) (l : Lane) : s.later.lane l = (s.lane l).tick := by
  unfold State.later
  rw [lane_mapLanes]
  rfl

theorem tick_bay (s : State) (b : Bay) : s.tick.bay b = (s.bay b).tick (s.bayCfg b).calib.period := later_bay s b

theorem tick_lane (s : State) (l : Lane) : s.tick.lane l = (s.lane l).tick := later_lane s l

theorem bayExpiries_setPending (s : State) (p : List Instr) :
    State.bayExpiries { s with pending := p } = s.bayExpiries := rfl

theorem laneExpiries_setPending (s : State) (p : List Instr) :
    State.laneExpiries { s with pending := p } = s.laneExpiries := rfl

theorem tick_pending (s : State) :
    s.tick.pending = allBays.flatMap s.tick.bayExpiries ++ allLanes.flatMap s.tick.laneExpiries := by
  rw [tick_eq]
  conv_rhs => simp only [bayExpiries_setPending, laneExpiries_setPending]

theorem mem_allBays (b : Bay) : b ∈ allBays := by decide +revert

theorem mem_allLanes (l : Lane) : l ∈ allLanes := by decide +revert

theorem mem_allPositions (p : Position) : p ∈ ([0, 1, 2, 3] : List Position) := by decide +revert

theorem windowLength_eq (p : Presence) : windowLength p = if p = .seated then 50 else 5 := by
  cases p <;> rfl

/-- The expiries of a bay: window, hold limit, survey timer (R7, R132, R140). -/
theorem mem_bayExpiries {s : State} {b : Bay} {c : Instr} :
    c ∈ s.bayExpiries b ↔
      (∃ w, c = .presenceWindowExpiry b ∧ (s.bay b).filter.window = some w ∧ windowLength w.level ≤ w.ms) ∨
      (∃ ms, c = .holdLimitExpiry b ∧ (s.bay b).line = .armed ms ∧ holdLimit ≤ ms) ∨
      ∃ ms, c = .surveyTimerExpiry b ∧ (s.bay b).surveyTimer = some ms ∧ (s.bayCfg b).calib.period ≤ ms ∧
        (s.bay b).wanted = false := by
  unfold State.bayExpiries
  simp only [List.mem_append, or_assoc]
  refine or_congr ?_ (or_congr ?_ ?_)
  · cases (s.bay b).filter.window with
    | none => simp
    | some w => by_cases h : windowLength w.level ≤ w.ms <;> simp [h]
  · cases (s.bay b).line with
    | armed ms => by_cases h : holdLimit ≤ ms <;> simp [h]
    | allow => simp
    | inhibit => simp
  · cases (s.bay b).surveyTimer with
    | none => simp
    | some ms => by_cases h : (s.bayCfg b).calib.period ≤ ms ∧ (s.bay b).wanted = false <;> simp [h]

/-- A lane is watched closely just when the condition of R141 holds. -/
theorem watched_iff (s : State) (l : Lane) : s.watched l = true ↔ WatchedClosely s l := by
  unfold State.watched WatchedClosely
  rw [Bool.or_eq_true]
  refine or_congr ?_ ?_
  · rw [List.any_eq_true]
    constructor
    · rintro ⟨p, -, h⟩
      exact ⟨p, by simpa using h⟩
    · rintro ⟨p, h⟩
      exact ⟨p, mem_allPositions p, by simpa using h⟩
  · cases (s.lane l).running with
    | none => simp
    | some x => simp [Option.isSome_iff_ne_none]

theorem interval_le {s : State} {l : Lane} {ms : Nat} :
    s.interval l ≤ ms ↔ 1000 ≤ ms ∨ 10 ≤ ms ∧ WatchedClosely s l := by
  unfold State.interval
  rw [← watched_iff]
  cases s.watched l <;> simp
  omega

/-- The expiries of a lane: reply timer, supply timer (R26, R141). -/
theorem mem_laneExpiries {s : State} {l : Lane} {c : Instr} :
    c ∈ s.laneExpiries l ↔
      (∃ x ms, c = .replyTimerExpiry l ∧ (s.lane l).running = some x ∧ x.timer = some ms ∧ replyTimeout ≤ ms) ∨
      ∃ ms, c = .supplyTimerExpiry l ∧ (s.lane l).supplyTimer = some ms ∧ s.interval l ≤ ms ∧
        (s.lane l).supplyDue = none := by
  unfold State.laneExpiries
  simp only [List.mem_append]
  refine or_congr ?_ ?_
  · cases (s.lane l).running with
    | none => simp
    | some x =>
      cases hx : x.timer with
      | none => simp [hx]
      | some ms => by_cases h : replyTimeout ≤ ms <;> simp [h, hx]
  · cases (s.lane l).supplyTimer with
    | none => simp
    | some ms => by_cases h : s.interval l ≤ ms ∧ (s.lane l).supplyDue = none <;> simp [h]

/-- Settles O2, record by record and expiry by expiry. -/
theorem emptyQueueTicks : Obligations.EmptyQueueTicks := by
  intro s hp
  have hstep : step s = .next s.tick := by
    unfold step
    rw [hp]
  refine ⟨s.tick, hstep, tick_frame s, fun b => ?_, fun l => ?_, tick_pending s, fun c => ?_⟩
  · rw [tick_bay]
    unfold BayRec.tick
    simp only [countUpTo, windowLength_eq, holdLimit]
    rfl
  · rw [tick_lane]
    rfl
  · rw [tick_pending]
    simp only [List.mem_append, List.mem_flatMap, mem_allBays, mem_allLanes, true_and, mem_bayExpiries, mem_laneExpiries,
      interval_le, windowLength_eq, holdLimit, replyTimeout]
    simp only [exists_or, or_assoc]

end Sys2Proof.Machine

/-! Metering arithmetic and the entries of a TALLY: O13, O14, O15, O16, O17 and O22. -/

namespace Sys2Proof.Machine

/-! ### Contributions and the carry (R81, R84, R85) -/

/-- The parts of a contribution: quotient and remainder of the total (R81). -/
theorem contribution_eq (n v k r : Nat) :
    contribution n v k r = ((n * v * k + r) / 1024, (n * v * k + r) % 1024) := rfl

/-- A count split over two entries gives the same (R81). -/
theorem contribution_split (n m v k r : Nat) :
    contribution (n + m) v k r =
      ((contribution n v k r).1 + (contribution m v k (contribution n v k r).2).1,
        (contribution m v k (contribution n v k r).2).2) := by
  simp only [contribution_eq, Nat.add_mul]
  generalize n * v * k = x
  generalize m * v * k = y
  exact Prod.ext (by dsimp only; omega) (by dsimp only; omega)

/-- The greatest contribution of one entry (R81). -/
theorem contribution_le {n v k r : Nat} (hn : n ≤ 16777215) (hv : v ≤ 65535) (hk : k ≤ 1280) (hr : r < 1024) :
    (contribution n v k r).1 ≤ 1374368481282 := by
  have hmul : n * v * k ≤ 16777215 * 65535 * 1280 := Nat.mul_le_mul (Nat.mul_le_mul hn hv) hk
  rw [contribution_eq]
  dsimp only
  omega

/-- Settles O14. -/
theorem contributionIsExact : Obligations.ContributionIsExact := by
  refine ⟨fun n v k r => ⟨contribution_exact n v k r, contribution_remainder_lt n v k r⟩, contribution_split,
    fun n r v k hzero hr => ?_, fun n v k r => contribution_le⟩
  have htotal : n * v * k = 0 := by rcases hzero with rfl | rfl <;> simp
  rw [contribution_eq, htotal]
  exact Prod.ext (by dsimp only; omega) (by dsimp only; omega)

/-- Settles O15. -/
theorem carryAndCeiling : Obligations.CarryAndCeiling := by
  intro a c
  refine ⟨fun h => charge_ceiling h c, fun h hq => ?_, fun h hq => charge_beyond h hq⟩
  have hmod : (a.fine + c) % tuInFl = a.fine + c - (a.fine + c) / 10 ^ 10 * 10 ^ 10 := by
    show (a.fine + c) % 10 ^ 10 = _
    omega
  rw [charge_within h hq, hmod]
  rfl

/-! ### Credits (R88) -/

/-- The loop of a credit in closed form: all borrowed tu at once, when the fine is used up or the credit is. -/
theorem creditLoop_eq (free rem fine : Nat) (h : rem = 0 ∨ fine = 0) :
    let n := min ((rem + (10 ^ 10 - 1)) / 10 ^ 10) free
    creditLoop free rem fine = (n, fine + n * 10 ^ 10 - min rem (n * 10 ^ 10), min rem (n * 10 ^ 10)) := by
  induction free generalizing rem fine with
  | zero => simp [creditLoop]
  | succ free ih =>
    unfold creditLoop
    dsimp only
    by_cases hrem : rem = 0
    · subst hrem
      simp
    · obtain rfl : fine = 0 := h.resolve_left hrem
      rw [if_neg hrem, ih (rem - min rem (0 + 10 ^ 10)) (0 + 10 ^ 10 - min rem (0 + 10 ^ 10)) (by omega)]
      have hceil : (rem + (10 ^ 10 - 1)) / 10 ^ 10 =
          (rem - min rem (0 + 10 ^ 10) + (10 ^ 10 - 1)) / 10 ^ 10 + 1 := by omega
      rw [hceil, Nat.add_min_add_right]
      generalize min ((rem - min rem (0 + 10 ^ 10) + (10 ^ 10 - 1)) / 10 ^ 10) free = n
      dsimp only
      rw [Nat.add_mul]
      obtain ⟨x, hx⟩ : ∃ x, x = n * 10 ^ 10 := ⟨_, rfl⟩
      rw [← hx]
      refine Prod.ext rfl (Prod.ext ?_ ?_)
      · dsimp only
        omega
      · dsimp only
        omega

/-- Settles O22, by the closed form of the loop. -/
theorem creditIsTheLoop : Obligations.CreditIsTheLoop := by
  intro a x hle
  have hloop := creditLoop_eq (a.pending - a.inflight) (x - min x a.fine) (a.fine - min x a.fine) (by omega)
  dsimp only at hloop ⊢
  rw [hloop]
  exact ⟨rfl, rfl, credit_applied_le a x, credit_inflight_le hle x, fun hf => credit_fine_lt hf x⟩

/-! ### TALLY bodies (R180) -/

/-- The bytes of a tally entry with its purpose bit (R180). -/
def tallyEntryBytes (e : TallyEntry × Bool) : List Byte :=
  toBytes 1 (16 * e.1.bay + 4 * e.1.dropClass.val + if e.2 then 1 else 0) ++ toBytes 3 e.1.count

theorem tallyEntryBytes_length (e : TallyEntry × Bool) : (tallyEntryBytes e).length = 4 := by
  simp [tallyEntryBytes]

theorem flatMap_tallyEntryBytes_length (es : List (TallyEntry × Bool)) :
    (es.flatMap tallyEntryBytes).length = 4 * es.length := by
  induction es with
  | nil => rfl
  | cons e es ih => rw [List.flatMap_cons, List.length_append, tallyEntryBytes_length, ih, List.length_cons]; omega

/-- An entry is read back wherever it stands (R180). -/
theorem tallyEntry_parse (front rest : List Byte) (e : TallyEntry × Bool) (hbay : e.1.bay < 16)
    (hcount : e.1.count < 2 ^ 24) :
    TallyEntry.parse (front ++ (tallyEntryBytes e ++ rest)) front.length = e.1 := by
  have hfirst : field (front ++ (tallyEntryBytes e ++ rest)) front.length 1 =
      16 * e.1.bay + 4 * e.1.dropClass.val + if e.2 then 1 else 0 := by
    rw [show front.length = front.length + 0 from rfl, field_behind, tallyEntryBytes, List.append_assoc, field_front]
    have hd := e.1.dropClass.isLt
    split <;> omega
  have hcount' : field (front ++ (tallyEntryBytes e ++ rest)) (front.length + 1) 3 = e.1.count := by
    rw [field_behind, tallyEntryBytes, List.append_assoc, field_after_toBytes _ _ _ le_rfl, Nat.sub_self, field_front]
    exact Nat.mod_eq_of_lt (by omega)
  have hd := e.1.dropClass.isLt
  have hparts : ∀ x y : TallyEntry, x.bay = y.bay → x.dropClass.val = y.dropClass.val → x.count = y.count → x = y := by
    rintro ⟨b, d, n⟩ ⟨b', d', n'⟩ hb hd hn
    simp_all [Fin.ext_iff]
  refine hparts _ _ ?_ ?_ hcount'
  · show field _ _ 1 / 16 = _
    rw [hfirst]
    split <;> omega
  · show field _ _ 1 / 4 % 4 = _
    rw [hfirst]
    split <;> omega

/-- The entries behind other bytes are read back in order (R180). -/
theorem tallyEntries_parse (front : List Byte) (es : List (TallyEntry × Bool))
    (h : ∀ e ∈ es, e.1.bay < 16 ∧ e.1.count < 2 ^ 24) :
    ((List.range es.length).map fun i => TallyEntry.parse (front ++ es.flatMap tallyEntryBytes) (front.length + 4 * i)) =
      es.map (·.1) := by
  induction es generalizing front with
  | nil => rfl
  | cons e es ih =>
    obtain ⟨hbay, hcount⟩ := h e List.mem_cons_self
    have hbehind := ih (front ++ tallyEntryBytes e) fun x hx => h x (List.mem_cons_of_mem _ hx)
    rw [List.length_append, tallyEntryBytes_length, List.append_assoc] at hbehind
    rw [List.length_cons, List.range_succ_eq_map, List.map_cons, List.map_map, List.map_cons, List.flatMap_cons,
      ← hbehind]
    congr 1
    · exact tallyEntry_parse front _ e hbay hcount
    · refine List.map_congr_left fun i _ => ?_
      show TallyEntry.parse _ (front.length + 4 * (i + 1)) = _
      rw [show front.length + 4 * (i + 1) = front.length + 4 + 4 * i by omega]

/-- Settles O13. -/
theorem tallyBodyReadsBack : Obligations.TallyBodyReadsBack := by
  intro swathEnd entries hlen h
  have hentries := tallyEntries_parse (toBytes 1 ((if swathEnd then 128 else 0) + entries.length)) entries h
  rw [toBytes_length] at hentries
  have hhead : field (toBytes 1 ((if swathEnd then 128 else 0) + entries.length) ++ entries.flatMap tallyEntryBytes) 0 1 =
      (if swathEnd then 128 else 0) + entries.length := by
    rw [field_front]
    split <;> omega
  show TallyBody.parse (_ ++ entries.flatMap tallyEntryBytes) = _
  unfold TallyBody.parse
  dsimp only
  rw [hhead]
  have hmod : ((if swathEnd then 128 else 0) + entries.length) % 16 = entries.length := by split <;> omega
  have hflag : (((if swathEnd then 128 else 0) + entries.length) / 128 == 1) = swathEnd := by
    cases swathEnd
    · simp
      omega
    · simp
      omega
  rw [hmod, hflag, hentries, if_pos ⟨hlen, by rw [List.length_append, toBytes_length, flatMap_tallyEntryBytes_length]⟩]

/-! ### Entries and swath ends (R79 to R82, R92, R131) -/

/-- The bay that a number below 12 names (R2). -/
theorem bayOf_eq {n : Nat} {b : Bay} (h : n = b.val) : bayOf? n = some b := h ▸ bayOf_val b

/-- Settles O16, by the three ways a bay takes a report. -/
theorem tallyEntryByBayState : Obligations.TallyEntryByBayState := by
  refine ⟨fun s e hbay => ?_, fun s e b hb => ?_⟩
  · rw [State.tallyEntry, bayOf_above (by omega)]
  · have hentry : s.tallyEntry e = s.tallyBay b e := by rw [State.tallyEntry, bayOf_eq hb]
    rw [hentry]
    refine ⟨fun bd hp => ?_, fun reason d hp hm => ?_, fun ha hr => ?_⟩
    · simp only [State.tallyBay, handling_active hp, State.entryContribution, State.modBay, hp]
      rfl
    · simp only [State.tallyBay, handling_rejected_allow hp hm, State.entryContribution, State.modBay, hp]
      rfl
    · simp only [State.tallyBay, handling_dropped ha hr, State.dropReport]

/-- Settles O17. -/
theorem swathEndCaptures : Obligations.SwathEndCaptures := by
  intro s
  refine ⟨rfl, fun b => ?_⟩
  unfold State.swathEnd
  rw [bay_mapBays]
  rcases hr : s.bay b with ⟨phase, slot, filter, thresholds, staged, line, wanted, surveyTimer, due, counter⟩
  cases phase <;> cases line <;> rfl

end Sys2Proof.Machine

/-! The take of requests and the host half of a frame: O9, O11, O18, O27 and O39. -/

namespace Sys2Proof.Machine

/-! ### Takes (R172) -/

/-- The command of a kind takes the head request as one of that kind (R172). -/
theorem exec_takes (k : ReqKind) : ∃ act, ∀ s, exec k.takes s = .next (s.take k act) := by
  cases k <;> exact ⟨_, fun _ => rfl⟩

/-- The kinds whose first byte names a bay. -/
def ReqKind.namesBay (k : ReqKind) : Prop :=
  k = .bayGet ∨ k = .meterGet ∨ k = .purgeReport ∨ k = .returnReport ∨ k = .dropsSet ∨ k = .levelsSet ∨ k = .senseSet ∨
    k = .commitSet ∨ k = .slotSet ∨ k = .bayRecheck ∨ k = .bayRelease ∨ k = .bayDisable ∨ k = .bayEnable ∨
    k = .commitRetry

/-- The command of such a kind acts on the bay its body names (R172). -/
theorem exec_takes_withBay {k : ReqKind} (h : k.namesBay) :
    ∃ act : Request → State → Bay → State, ∀ s, exec k.takes s = .next (s.take k fun r t => t.withBay r (act r t)) := by
  obtain rfl | rfl | rfl | rfl | rfl | rfl | rfl | rfl | rfl | rfl | rfl | rfl | rfl | rfl := h
  all_goals exact ⟨_, fun _ => rfl⟩

section

variable {s : State} {k : ReqKind} {r : Request} {rest : List Request} {act : Request → State → State}

/-- A FAULTED device refuses all but two kinds (R172). -/
theorem take_faulted (hreq : s.requests = r :: rest) (hk : r.kind = k.code) (hd : s.device = .faulted)
    (hserved : k.servedFaulted = false) : s.take k act = s.answered rest (r.answer .faulted []) := by
  unfold State.take State.judgeTaken
  rw [hreq]
  dsimp only
  rw [if_pos hk, if_pos (by simp [hd, hserved])]
  rfl

/-- A device that serves the kind refuses a wrong length (R172). -/
theorem take_badLength (hreq : s.requests = r :: rest) (hk : r.kind = k.code)
    (hserved : s.device ≠ .faulted ∨ k.servedFaulted = true) (hl : k.lengthOk r.body.length = false) :
    s.take k act = s.answered rest (r.answer .badArg []) := by
  have hno : (s.device == .faulted && !k.servedFaulted) = false := by
    rcases hserved with h | h <;> simp [h]
  unfold State.take State.judgeTaken
  rw [hreq]
  dsimp only
  rw [if_pos hk, hno, if_neg (by simp), if_neg (by simp [hl])]
  rfl

/-- A kind code that names no request is refused first of all (R172). -/
theorem takeUnknown_unknown (hreq : s.requests = r :: rest) (h : ∀ k : ReqKind, r.kind ≠ k.code) :
    s.takeUnknown = s.answered rest (r.answer .unknownKind []) := by
  have hnone : ReqKind.ofCode r.kind = none := by
    unfold ReqKind.ofCode
    rw [List.find?_eq_none]
    intro k _
    simpa using fun hk : k.code = r.kind => h k hk.symm
  unfold State.takeUnknown
  rw [hreq]
  dsimp only
  rw [hnone]
  rfl

end

/-- The kinds that a FAULTED device serves (R172). -/
theorem servedFaulted_iff (k : ReqKind) : k.servedFaulted = true ↔ k = .statusGet ∨ k = .restart := by
  cases k <;> simp [ReqKind.servedFaulted]

/-- Settles O11. -/
theorem takeJudgesInOrder : Obligations.TakeJudgesInOrder := by
  refine ⟨fun s r rest hreq h => ?_, fun s k r rest hreq hk => ⟨fun hd hk1 hk2 => ?_, fun hserved hl => ?_⟩,
    fun s k r rest hbay h hl habove => ?_, fun s k hreq => ⟨?_, ?_⟩⟩
  · show execUnknownKind s = _
    rw [execUnknownKind, takeUnknown_unknown hreq h]
  · obtain ⟨act, hexec⟩ := exec_takes k
    have hno : k.servedFaulted = false := by
      rw [← Bool.not_eq_true, servedFaulted_iff]
      exact fun h => h.elim hk1 hk2
    rw [hexec, take_faulted hreq hk hd hno]
  · obtain ⟨act, hexec⟩ := exec_takes k
    rw [hexec, take_badLength hreq hk (by rwa [servedFaulted_iff]) hl]
  · obtain ⟨act, hexec⟩ := exec_takes_withBay hbay
    rw [hexec, take_taking h hl, withBay_above (by rwa [byteAt_zero])]
    rfl
  · obtain ⟨act, hexec⟩ := exec_takes k
    rw [hexec, take_empty hreq]
  · show execUnknownKind s = _
    simp only [execUnknownKind, State.takeUnknown, hreq]

/-! ### TALLY (R82) -/

theorem bayOf_isNone (n : Nat) : (bayOf? n).isNone = decide (12 ≤ n) := by
  unfold bayOf?
  split <;> simp <;> omega

theorem skippedCount_eq (entries : List TallyEntry) :
    skippedCount entries = (entries.filter fun e => decide (12 ≤ e.bay)).length := by
  simp only [skippedCount, bayOf_isNone]

theorem skippedCount_eq_zero (entries : List TallyEntry) :
    skippedCount entries = 0 ↔ ¬∃ e ∈ entries, 12 ≤ e.bay := by
  rw [skippedCount_eq, List.length_eq_zero_iff, List.filter_eq_nil_iff]
  simp

/-- A report is dropped by a bay that is neither ACTIVE nor REJECTED under ALLOW (R79, R80). -/
theorem handling_dropped_iff (s : State) (b : Bay) :
    s.handling b = .dropped ↔ (s.bay b).phase.active? = none ∧
      ∀ reason d, (s.bay b).phase = .rejected reason d → s.policy.rejectMode = .inhibit := by
  refine ⟨fun h => ⟨?_, fun reason d hp => ?_⟩, fun h => handling_dropped h.1 h.2⟩
  · cases hp : (s.bay b).phase with
    | active bd => rw [handling_active hp] at h; exact nomatch h
    | _ => rfl
  · cases hm : s.policy.rejectMode with
    | allow => rw [handling_rejected_allow hp hm] at h; exact nomatch h
    | inhibit => rfl

theorem dropsEntry_iff (s : State) (e : TallyEntry) :
    s.dropsEntry e = true ↔ ∃ b : Bay, e.bay = b.val ∧ (s.bay b).phase.active? = none ∧
      ∀ reason d, (s.bay b).phase = .rejected reason d → s.policy.rejectMode = .inhibit := by
  simp only [← handling_dropped_iff]
  unfold State.dropsEntry
  by_cases h : e.bay < 12
  · have hb : bayOf? e.bay = some ⟨e.bay, h⟩ := bayOf_eq rfl
    rw [hb]
    simp only [beq_iff_eq]
    refine ⟨fun hd => ⟨⟨e.bay, h⟩, rfl, hd⟩, fun ⟨b, hb', hd⟩ => ?_⟩
    rwa [show (⟨e.bay, h⟩ : Bay) = b from Fin.ext hb']
  · rw [bayOf_above (by omega)]
    simp only [Bool.false_eq_true, false_iff]
    rintro ⟨b, hb, -⟩
    exact h (hb ▸ b.isLt)

/-- TALLY at its take reads its body (R82). -/
theorem exec_tally_taking {s : State} {r : Request} {rest : List Request} (h : Taking s .tally r rest)
    (hl : ReqKind.lengthOk .tally r.body.length = true) :
    exec .tally s = .next (match TallyBody.parse r.body with
      | none => (s.dequeued rest).reply r .badArg []
      | some body =>
        ((s.dequeued rest).applyTally body).reply r (if skippedCount body.entries = 0 then .ok else .partially)
          (toBytes 1 (skippedCount body.entries) ++ toBytes 1 ((s.dequeued rest).droppedCount body.entries))) := by
  show execTally s = _
  rw [execTally, take_taking h hl] <;> rfl

/-- Settles O18. -/
theorem tallyApplies : Obligations.TallyApplies := by
  intro s r rest h hl
  refine ⟨fun hparse => ?_, fun body hparse => ⟨_, _, _, rfl, rfl, rfl, ?_, dropsEntry_iff s⟩⟩
  · rw [exec_tally_taking h hl, hparse]
    rfl
  · rw [exec_tally_taking h hl, hparse]
    dsimp only
    have hresult : (if skippedCount body.entries = 0 then Result.ok else .partially) =
        if (∃ e ∈ body.entries, 12 ≤ e.bay) then .partially else .ok := by
      by_cases hskip : ∃ e ∈ body.entries, 12 ≤ e.bay
      · rw [if_pos hskip, if_neg (by rwa [skippedCount_eq_zero, not_not])]
      · rw [if_neg hskip, if_pos ((skippedCount_eq_zero _).mpr hskip)]
    rw [hresult, skippedCount_eq]
    rfl

/-! ### SLOT_SET, SUPPLY_SET, ROUTE_SET and MASK_SET (R6, R151, R158, R159) -/

theorem kindOf_val (k : Fin 13) : kindOf? k.val = some k := by
  unfold kindOf?
  rw [dif_pos k.isLt]

theorem levelOf_val (lv : Level) : levelOf? lv.val = some lv := by
  unfold levelOf?
  rw [dif_pos lv.isLt]

theorem kindOf_above {n : Nat} (h : 12 < n) : kindOf? n = none := by
  unfold kindOf?
  rw [dif_neg (by omega)]

theorem levelOf_above {n : Nat} (h : 3 < n) : levelOf? n = none := by
  unfold levelOf?
  rw [dif_neg (by omega)]

section

variable {s : State} {r : Request} {rest : List Request}

/-- The first byte of a body. -/
theorem byteAt_front {x : Nat} {tail : List Byte} (hx : x < 256) (h : r.body = toBytes 1 x ++ tail) : r.byteAt 0 = x := by
  unfold Request.byteAt
  rw [h, field_front]
  exact Nat.mod_eq_of_lt hx

/-- The second byte of a body. -/
theorem byteAt_second {x y : Nat} {tail : List Byte} (hy : y < 256) (h : r.body = toBytes 1 x ++ (toBytes 1 y ++ tail)) :
    r.byteAt 1 = y := by
  unfold Request.byteAt
  rw [h, field_after_toBytes _ _ _ le_rfl, field_front]
  exact Nat.mod_eq_of_lt hy

/-- SLOT_SET of a bay and a product code (R6). -/
theorem exec_slotSet_bay {b : Bay} {code : Nat} (hcode : code < 65536) (h : Taking s .slotSet r rest)
    (hb : r.body = toBytes 1 b.val ++ toBytes 2 code) :
    exec .slotSet s = .next (((s.dequeued rest).modBayCfg b fun c =>
      { c with slotCode := BitVec.ofNat 16 code }).settingsChanged.place (r.answer .ok [])) := by
  show execSlotSet s = _
  rw [execSlotSet, take_taking h (by simp [hb, ReqKind.lengthOk]), withBay_bay hb, wordAt_one hb hcode]
  rfl

/-- SUPPLY_SET of a raw figure (R151). -/
theorem exec_supplySet_raw {raw : Nat} (hraw : raw < 65536) (h : Taking s .supplySet r rest) (hb : r.body = toBytes 2 raw) :
    exec .supplySet s = .next ((State.settingsChanged
      { s with requests := rest, settings := { s.settings with holdRaw := min 991 raw } }).place
        (r.answer .ok (toBytes 2 (min 991 raw)))) := by
  have hword : r.wordAt 0 = raw := by
    unfold Request.wordAt
    rw [hb, field_all]
    exact Nat.mod_eq_of_lt hraw
  have hclamp : clamp 0 991 raw = min 991 raw := Nat.zero_max _
  show execSupplySet s = _
  rw [execSupplySet, take_taking h (by simp [hb, ReqKind.lengthOk]), hword, hclamp]
  rfl

/-- ROUTE_SET at its take (R158). -/
theorem exec_routeSet_bytes {kind level : Nat} (hkind : kind < 256) (hlevel : level < 256) (h : Taking s .routeSet r rest)
    (hb : r.body = toBytes 1 kind ++ toBytes 1 level) :
    exec .routeSet s = .next (match kindOf? kind, levelOf? level with
      | some k, some lv => State.reply (State.settingsChanged
          { s.dequeued rest with settings := { s.settings with routing := put s.settings.routing k lv } }) r .ok []
      | some _, none => (s.dequeued rest).reply r .badArg []
      | none, _ => (s.dequeued rest).reply r .badArg []) := by
  have hsecond : r.byteAt 1 = level := byteAt_second (tail := []) hlevel (by rw [hb, List.append_nil])
  show execRouteSet s = _
  rw [execRouteSet, take_taking h (by simp [hb, ReqKind.lengthOk]), byteAt_front hkind hb, hsecond]
  rfl

/-- MASK_SET of two bytes (R159). -/
theorem exec_maskSet_bytes {lm wm : Nat} (hlm : lm < 256) (hwm : wm < 256) (h : Taking s .maskSet r rest)
    (hb : r.body = toBytes 1 lm ++ toBytes 1 wm) :
    exec .maskSet s = .next ((State.settingsChanged
      { s with
        requests := rest
        settings := { s.settings with levelMask := BitVec.ofNat 4 lm, wakeMask := BitVec.ofNat 4 wm } }).place
          (r.answer .ok (toBytes 1 (lm % 16) ++ toBytes 1 (wm % 16)))) := by
  have hsecond : r.byteAt 1 = wm := byteAt_second (tail := []) hwm (by rw [hb, List.append_nil])
  show execMaskSet s = _
  rw [execMaskSet, take_taking h (by simp [hb, ReqKind.lengthOk]), byteAt_front hlm hb, hsecond]
  rfl

end

/-- Settles O27. -/
theorem plainSettingsStored : Obligations.PlainSettingsStored := by
  intro s r rest
  refine ⟨fun b code hcode h hb => exec_slotSet_bay hcode h hb, fun raw hraw h hb => exec_supplySet_raw hraw h hb,
    fun kind level hkind hlevel h hb => ⟨fun k lv hk hlv => ?_, fun hout => ?_⟩,
    fun lm wm hlm hwm h hb => exec_maskSet_bytes hlm hwm h hb⟩
  · subst hk hlv
    refine ⟨{ s.dequeued rest with settings := { s.settings with routing := put s.settings.routing k lv } }, ?_, rfl, ?_,
      fun j hj => ?_⟩
    · rw [exec_routeSet_bytes hkind hlevel h hb, kindOf_val, levelOf_val]
      rfl
    · exact get_put_same _ _ _
    · exact get_put_other _ hj _
  · rw [exec_routeSet_bytes hkind hlevel h hb]
    rcases hout with hk | hl
    · rw [kindOf_above hk]
      rfl
    · rw [levelOf_above hl]
      cases kindOf? kind <;> rfl

/-! ### DOZE and NOTICE_DONE (R163, R165) -/

theorem mem_allLevels (lv : Level) : lv ∈ allLevels := by decide +revert

/-- When a level is offerable (R160). -/
theorem offerable_iff (s : State) (m : Level) :
    s.offerable m = true ↔ s.latchedPairs m ≠ [] ∧ s.settings.levelMask.getLsbD m.val = false ∧ s.service[m] = none ∧
      ∀ j : Level, j < m → s.service[j] = none := by
  have hall : (allLevels.all fun j => !(decide (j < m) && s.inService j)) = true ↔
      ∀ j : Level, j < m → s.service[j] = none := by
    rw [List.all_eq_true]
    constructor
    · intro h j hj
      simpa [State.inService, hj] using h j (mem_allLevels j)
    · intro h j _
      by_cases hj : j < m
      · simp [State.inService, h j hj]
      · simp [hj]
  unfold State.offerable
  rw [Bool.and_eq_true, hall, Bool.and_eq_true, Bool.and_eq_true]
  simp [State.inService, and_assoc]

/-- NOTICE_DONE at its take (R163). -/
theorem exec_noticeDone_byte {s : State} {r : Request} {rest : List Request} {n : Nat} (hn : n < 256)
    (h : Taking s .noticeDone r rest) (hb : r.body = toBytes 1 n) :
    exec .noticeDone s = .next (match levelOf? n with
      | none => (s.dequeued rest).reply r .badArg []
      | some lv =>
        if s.inService lv then State.reply { s.dequeued rest with service := put s.service lv none } r .ok []
        else (s.dequeued rest).reply r .bayState []) := by
  have hfirst : r.byteAt 0 = n := byteAt_front (tail := []) hn (by rw [hb, List.append_nil])
  show execNoticeDone s = _
  rw [execNoticeDone, take_taking h (by simp [hb, ReqKind.lengthOk]), hfirst]
  rfl

/-- Settles O39. -/
theorem dozeAndNoticeDone : Obligations.DozeAndNoticeDone := by
  intro s r rest
  refine ⟨fun h hb => ?_, fun lv h hb => ⟨fun pairs hpairs => ?_, fun hnone => ?_⟩, fun n hn hn' h hb => ?_,
    fun hd hreq hk => ?_⟩
  · show execDoze s = _
    rw [execDoze, take_taking h (by simp [hb, ReqKind.lengthOk])]
    rfl
  · have hin : s.inService lv = true := by
      unfold State.inService
      rw [hpairs]
      rfl
    refine ⟨State.reply { s.dequeued rest with service := put s.service lv none } r .ok [], ?_, rfl, get_put_same _ _ _,
      fun m hm => get_put_other _ hm _, offerable_iff _⟩
    rw [exec_noticeDone_byte (by omega) h hb, levelOf_val]
    dsimp only
    rw [if_pos hin]
  · have hin : s.inService lv = false := by
      unfold State.inService
      rw [hnone]
      rfl
    rw [exec_noticeDone_byte (by omega) h hb, levelOf_val]
    dsimp only
    rw [if_neg (by simp [hin])]
    rfl
  · rw [exec_noticeDone_byte hn' h hb, levelOf_above hn]
    rfl
  · show execNoticeDone s = _
    rw [execNoticeDone, take_faulted (k := .noticeDone) hreq hk hd rfl]

end Sys2Proof.Machine

/-! The host half of a frame, the store writer after a change of settings, and the latches: O9, O28 and O54. -/

namespace Sys2Proof.Machine

/-! ### Host frames (R170, R171) -/

/-- Two bytes are the number they spell, written as two bytes. -/
theorem toBytes_ofBytes_two (x y : Byte) : toBytes 2 (ofBytes [x, y]) = [x, y] := by
  have hx := x.isLt
  have hy := y.isLt
  have hnum : ofBytes [x, y] = 256 * x.toNat + y.toNat := by simp [ofBytes]; omega
  rw [hnum]
  simp only [toBytes, List.cons.injEq, and_true]
  refine ⟨BitVec.eq_of_toNat_eq ?_, BitVec.eq_of_toNat_eq ?_⟩
  · rw [BitVec.toNat_ofNat]
    omega
  · rw [BitVec.toNat_ofNat]
    omega

/-- A field of two bytes holds a number just when its bytes are that number's (R178). -/
theorem field_two_eq {bs : List Byte} {start v : Nat} (hlen : start + 2 ≤ bs.length) (hv : v < 65536) :
    field bs start 2 = v ↔ (bs.drop start).take 2 = toBytes 2 v := by
  have htwo : ((bs.drop start).take 2).length = 2 := by simp; omega
  obtain ⟨x, y, hxy⟩ : ∃ x y, (bs.drop start).take 2 = [x, y] := List.length_eq_two.mp htwo
  unfold field
  rw [hxy]
  constructor
  · rintro rfl
    rw [toBytes_ofBytes_two]
  · intro h
    rw [h, ofBytes_toBytes_of_lt hv]

/-- The check of a host half against the CRC-16 of its length byte and body (R170). -/
theorem hostCheckOk_iff {l : Byte} {tail : List Byte} (hlen : l.toNat + 2 ≤ tail.length) :
    hostCheckOk (l :: tail) l.toNat = true ↔
      (tail.drop l.toNat).take 2 = toBytes 2 (crc16 (l :: tail.take l.toNat)).toNat := by
  have htake : (l :: tail).take (1 + l.toNat) = l :: tail.take l.toNat := by rw [Nat.add_comm, List.take_succ_cons]
  have hdrop : (l :: tail).drop (1 + l.toNat) = tail.drop l.toNat := by rw [Nat.add_comm, List.drop_succ_cons]
  unfold hostCheckOk
  rw [beq_iff_eq, htake, field_two_eq (by rw [List.length_cons]; omega) (BitVec.isLt _), hdrop]

/-- A host half that is neither empty nor a link reset is judged (R170). -/
theorem exec_requestFrame_judged (s : State) {l : Byte} (tail : List Byte) (h0 : l ≠ 0) (hff : l ≠ 0xFF) :
    exec (.requestFrame (l :: tail)) s = .next (s.judgeRequest (l :: tail) l.toNat) := by
  show execRequestFrame (l :: tail) s = _
  unfold execRequestFrame
  dsimp only
  rw [if_neg h0, if_neg hff]

section

variable {s : State} {bytes : List Byte} {l : Nat}

theorem outcome_of_started (h : s.device ≠ .starting) (st : LinkStatus) : s.outcome st = { s with status := st } := by
  rw [State.outcome, if_neg (by simpa using h)]

theorem judgeRequest_starting (h : s.device = .starting) : s.judgeRequest bytes l = { s with status := .notReady } := by
  simp [State.judgeRequest, State.outcome, h]

theorem judgeRequest_badLength (h : s.device ≠ .starting) (hl : l < 2 ∨ 61 < l ∨ bytes.length < 1 + l + 2) :
    s.judgeRequest bytes l = { s with status := .badLength } := by
  have hl' : (l < 2 || 61 < l || bytes.length < 1 + l + 2) = true := by simpa [or_assoc] using hl
  unfold State.judgeRequest
  rw [if_neg (by simpa using h), if_pos hl', outcome_of_started h]

/-- A host half of a right length goes by its check (R170). -/
theorem judgeRequest_checked (h : s.device ≠ .starting) (h2 : 2 ≤ l) (h61 : l ≤ 61) (hlen : 1 + l + 2 ≤ bytes.length) :
    s.judgeRequest bytes l =
      if hostCheckOk bytes l then s.accept (Request.parse bytes l) else { s with status := .badCheck } := by
  have hl' : ¬(l < 2 || 61 < l || bytes.length < 1 + l + 2) = true := by simp; omega
  unfold State.judgeRequest
  rw [if_neg (by simpa using h), if_neg hl', outcome_of_started h]

/-- A request is accepted at the tail of the queue where there is room (R171). -/
theorem accept_eq (h : s.device ≠ .starting) (r : Request) :
    s.accept r =
      if s.requests.length < 4 ∧ s.replies.length + s.reservations < 8 then
        { s with requests := s.requests ++ [r], status := .taken }
      else { s with status := .full } := by
  unfold State.accept State.hasRoom
  simp only [State.outcome, Bool.and_eq_true, decide_eq_true_eq, beq_iff_eq, if_neg h]

end

/-- The request in a host half laid out byte by byte (R178). -/
theorem request_parse (l ticket kind : Byte) (body rest : List Byte) :
    Request.parse (l :: ticket :: kind :: (body ++ rest)) (body.length + 2) =
      { ticket := ticket, kind := kind, body := body } := by
  simp [Request.parse, field, ofBytes]

/-- Settles O9. -/
theorem hostFramesJudged : Obligations.HostFramesJudged := by
  refine ⟨fun s => ?_, fun s l tail h0 hff => ?_, fun s ticket kind body extra hs hbody => ?_⟩
  · show Host.Outcome.next (s.outcome .none) = _
    simp only [State.outcome, beq_iff_eq]
  · have hpos : l.toNat ≠ 0 := fun h => h0 (BitVec.eq_of_toNat_eq h)
    rw [exec_requestFrame_judged s tail h0 hff]
    refine ⟨fun hs => by rw [judgeRequest_starting hs], fun hs hl => ?_, fun hs h1 h61 hlen hcrc => ?_⟩
    · rw [judgeRequest_badLength hs]
      rw [List.length_cons]
      rcases hl with rfl | hl | hl
      · exact .inl (by decide)
      · exact .inr (.inl (by omega))
      · exact .inr (.inr (by omega))
    · have hone : l.toNat ≠ 1 := fun h => h1 (BitVec.eq_of_toNat_eq h)
      rw [judgeRequest_checked hs (by omega) h61 (by rw [List.length_cons]; omega), if_neg (by rwa [hostCheckOk_iff hlen])]
  · have hl : (BitVec.ofNat 8 (body.length + 2)).toNat = body.length + 2 := by
      rw [BitVec.toNat_ofNat]
      omega
    have hne : ∀ x : Byte, x.toNat ≠ body.length + 2 → BitVec.ofNat 8 (body.length + 2) ≠ x := fun x hx h =>
      hx (by rw [← h, hl])
    dsimp only
    generalize BitVec.ofNat 8 (body.length + 2) = l at hl hne ⊢
    generalize hcrc : toBytes 2 (crc16 ([l, ticket, kind] ++ body)).toNat = crc
    have hcrclen : crc.length = 2 := by rw [← hcrc, toBytes_length]
    show exec (.requestFrame (l :: (([ticket, kind] ++ body) ++ crc ++ extra))) s = _
    rw [exec_requestFrame_judged s _ (hne 0 (by simp)) (hne 0xFF (by simp; omega)), hl,
      judgeRequest_checked hs (by omega) (by omega) (by simp; omega)]
    have hcheck : hostCheckOk (l :: (([ticket, kind] ++ body) ++ crc ++ extra))
        (body.length + 2) = true := by
      have hlen : ([ticket, kind] ++ body).length = body.length + 2 := by simp
      rw [← hl, hostCheckOk_iff (by rw [hl]; simp; omega), hl, List.append_assoc, List.drop_left' hlen,
        List.take_left' hcrclen, List.take_left' hlen, ← hcrc]
      rfl
    rw [if_pos hcheck, show (([ticket, kind] ++ body) ++ crc ++ extra) = ticket :: kind :: (body ++ (crc ++ extra)) by simp,
      request_parse, accept_eq hs]

/-! ### A change of settings (R186) -/

/-- Settles O28, by what a trigger does with SETTINGS dirty. -/
theorem settingsChangeTriggersWriter : Obligations.SettingsChangeTriggersWriter := by
  intro s hs
  have hdevice : (s.markDirty .settings).device ≠ .faulted := hs
  refine ⟨settingsChanged_frame s, ?_, fun c hc => ?_, fun hw ht => ?_, fun hw ht hp => ?_, fun hw ht hp => ?_⟩
  · cases hw : s.writer.writing with
    | some c => rw [State.settingsChanged, trigger_writing hdevice hw]
    | none =>
      cases ht : s.writer.dirty.table with
      | true => rw [State.settingsChanged, trigger_table hdevice hw ht]
      | false =>
        cases hp : s.writer.dirty.policy with
        | true => rw [State.settingsChanged, trigger_policy hdevice hw ht hp]
        | false => rw [State.settingsChanged, trigger_settings hdevice hw ht hp rfl]
  · rw [State.settingsChanged, trigger_writing hdevice hc]
    exact ⟨hc, rfl⟩
  · rw [State.settingsChanged, trigger_table hdevice hw ht]
    exact ⟨rfl, rfl⟩
  · rw [State.settingsChanged, trigger_policy hdevice hw ht hp]
    exact ⟨rfl, by rw [← ht]; rfl⟩
  · rw [State.settingsChanged, trigger_settings hdevice hw ht hp rfl]
    exact ⟨rfl, by simp [State.markDirty, Sections.set, ht, hp, Sections.empty]⟩

/-! ### Latches (R157, R161) -/

theorem mem_allSites (site : Site) : site ∈ allSites := by decide +revert

theorem mem_allKinds (k : Fin 13) : k ∈ allKinds := by decide +revert

/-- The pairs latched at a level (R161). -/
theorem mem_latchedPairs (s : State) (lv : Level) (p : NoticePair) :
    p ∈ s.latchedPairs lv ↔ s.latchOf p.site p.kind = some lv := by
  obtain ⟨site, k⟩ := p
  simp only [State.latchedPairs, List.mem_flatMap, List.mem_map, List.mem_filter, mem_allSites, mem_allKinds, true_and,
    beq_iff_eq, NoticePair.mk.injEq]
  constructor
  · rintro ⟨site', k', h, rfl, rfl⟩
    exact h
  · exact fun h => ⟨site, k, h, rfl, rfl⟩

/-- They ascend by site and then by kind (R161). -/
theorem latchedPairs_ascend (s : State) (lv : Level) :
    (s.latchedPairs lv).Pairwise fun p q => p.site < q.site ∨ p.site = q.site ∧ p.kind < q.kind := by
  have hsites : allSites.Pairwise (· < ·) := by decide
  have hkinds : allKinds.Pairwise (· < ·) := by decide
  unfold State.latchedPairs
  rw [List.pairwise_flatMap]
  refine ⟨fun site _ => ?_, hsites.imp fun {a b} hab p hp q hq => ?_⟩
  · rw [List.pairwise_map]
    exact (hkinds.filter _).imp fun h => .inr ⟨rfl, h⟩
  · simp only [List.mem_map] at hp hq
    obtain ⟨k, -, rfl⟩ := hp
    obtain ⟨k', -, rfl⟩ := hq
    exact .inl hab

theorem latchedPairs_ne_nil (s : State) (lv : Level) :
    s.latchedPairs lv ≠ [] ↔ ∃ site k, s.latchOf site k = some lv := by
  rw [← List.length_pos_iff, List.length_pos_iff_exists_mem]
  constructor
  · rintro ⟨p, hp⟩
    exact ⟨p.site, p.kind, (mem_latchedPairs s lv p).mp hp⟩
  · rintro ⟨site, k, h⟩
    exact ⟨⟨site, k⟩, (mem_latchedPairs s lv ⟨site, k⟩).mpr h⟩

/-- A latch that is set keeps its level (R157). -/
theorem latchPair_of_set {s : State} {site : Site} {k : Fin 13} (lv : Level) (h : s.latchOf site k ≠ none) :
    s.latchPair site k lv = s := by
  unfold State.latchPair
  cases hl : s.latchOf site k with
  | none => exact absurd hl h
  | some v => rfl

/-- A latch that is clear takes the level (R157). -/
theorem latchPair_of_clear {s : State} {site : Site} {k : Fin 13} (lv : Level) (h : s.latchOf site k = none) :
    s.latchPair site k lv = s.setLatch site k (some lv) := by
  unfold State.latchPair
  rw [h]

/-- Settles O54. -/
theorem latchesCoalesce : Obligations.LatchesCoalesce := by
  refine ⟨fun s site k => ⟨fun h => latchPair_of_set _ h, fun h => ?_⟩,
    fun s lv => ⟨mem_latchedPairs s lv, latchedPairs_ascend s lv, ?_, ?_⟩⟩
  · have hlatch : s.latch site k = s.setLatch site k.code (some s.settings.routing[k.code]) := latchPair_of_clear _ h
    refine ⟨latch_frame s site k, ?_, fun site' k' hne => ?_⟩
    · rw [hlatch, latchOf_setLatch, if_pos ⟨rfl, rfl⟩]
    · rw [hlatch, latchOf_setLatch, if_neg fun ⟨h1, h2⟩ => hne ⟨h1.symm, h2.symm⟩]
  · simp only [State.attention, Bool.and_eq_true, bne_iff_ne, Bool.or_eq_true, Bool.not_eq_true', List.any_eq_true,
      mem_allLevels, true_and, ne_eq, List.isEmpty_eq_false_iff]
  · simp only [State.wake, Bool.and_eq_true, List.any_eq_true, mem_allLevels, true_and, Bool.not_eq_true',
      List.isEmpty_eq_false_iff, latchedPairs_ne_nil]

end Sys2Proof.Machine

/-! The two frame checks as remainders of polynomials over two elements: O10. -/

namespace Sys2Proof.Machine

open Polynomial in
/-- Exclusive or adds the polynomials of two words. -/
theorem bitsPoly_xor {n : Nat} (x y : BitVec n) : bitsPoly (x ^^^ y) = bitsPoly x + bitsPoly y := by
  unfold bitsPoly
  rw [← Finset.sum_add_distrib]
  refine Finset.sum_congr rfl fun i _ => ?_
  rw [BitVec.getLsbD_xor]
  cases x.getLsbD i.val <;> cases y.getLsbD i.val <;> simp [CharTwo.add_self_eq_zero]

open Polynomial in
/-- A shift by one place multiplies the polynomial, less the bit shifted out. -/
theorem bitsPoly_shift {n : Nat} (c : BitVec (n + 1)) :
    X * bitsPoly c = bitsPoly (c <<< 1) + if c.msb then X ^ (n + 1) else 0 := by
  unfold bitsPoly
  rw [Fin.sum_univ_castSucc, Fin.sum_univ_succ, mul_add, Finset.mul_sum]
  have hmsb : c.msb = c.getLsbD n := by simp [BitVec.msb_eq_getLsbD_last]
  have hlow : (if (c <<< 1).getLsbD (0 : Fin (n + 1)).val then X ^ (0 : Fin (n + 1)).val else 0 :
      Polynomial (ZMod 2)) = 0 := by
    simp
  rw [hmsb, hlow, zero_add]
  congr 1
  · refine Finset.sum_congr rfl fun i _ => ?_
    have hbit : (c <<< 1).getLsbD i.succ.val = c.getLsbD i.castSucc.val := by simp
    rw [hbit]
    split
    · rw [Fin.val_succ, Fin.val_castSucc, pow_succ']
    · rw [mul_zero]
  · rw [Fin.val_last]
    split
    · rw [pow_succ']
    · rw [mul_zero]

open Polynomial in
/-- A byte placed eight places up. -/
theorem bitsPoly_high (b : Byte) : bitsPoly (b.setWidth 16 <<< 8) = X ^ 8 * bitsPoly b := by
  unfold bitsPoly
  show ∑ i : Fin (8 + 8), _ = _
  rw [Fin.sum_univ_add, Finset.mul_sum]
  have hlow : ∀ i : Fin 8, (b.setWidth 16 <<< 8).getLsbD (Fin.castAdd 8 i).val = false := by
    intro i
    simp
  rw [Finset.sum_eq_zero fun i _ => by rw [hlow i, if_neg (by simp)], zero_add]
  refine Finset.sum_congr rfl fun i _ => ?_
  have hbit : (b.setWidth 16 <<< 8).getLsbD (Fin.natAdd 8 i).val = b.getLsbD i.val := by
    have h1 : i.val + 8 < 16 := by omega
    simp [h1]
  rw [hbit]
  split
  · rw [Fin.val_natAdd, pow_add]
  · rw [mul_zero]

/-- The generator of a check. -/
noncomputable def generator {n : Nat} (p : BitVec n) : Polynomial (ZMod 2) := Polynomial.X ^ n + bitsPoly p

open Polynomial in
/-- One bit of a check multiplies by X, modulo its generator. -/
theorem generator_dvd_bit {n : Nat} (p c : BitVec (n + 1)) :
    generator p ∣ bitsPoly (if c.msb then (c <<< 1) ^^^ p else c <<< 1) - X * bitsPoly c := by
  rw [bitsPoly_shift]
  split
  · refine ⟨1, ?_⟩
    have htwo : (X ^ (n + 1) + X ^ (n + 1) : Polynomial (ZMod 2)) = 0 := CharTwo.add_self_eq_zero _
    rw [bitsPoly_xor, generator]
    linear_combination -htwo
  · simp

open Polynomial in
/-- Eight steps that each multiply by X make one that multiplies by its eighth power. -/
theorem dvd_eight {g : Polynomial (ZMod 2)} {n : Nat} {f : BitVec n → BitVec n}
    (h : ∀ c, g ∣ bitsPoly (f c) - X * bitsPoly c) (c : BitVec n) :
    g ∣ bitsPoly (f (f (f (f (f (f (f (f c)))))))) - X ^ 8 * bitsPoly c := by
  have htwo : ∀ k d, g ∣ bitsPoly d - X ^ k * bitsPoly c → g ∣ bitsPoly (f d) - X ^ (k + 1) * bitsPoly c := by
    rintro k d ⟨q, hq⟩
    obtain ⟨q', hq'⟩ := h d
    exact ⟨q' + X * q, by linear_combination hq' + X * hq⟩
  have hzero : g ∣ bitsPoly c - X ^ 0 * bitsPoly c := by simp
  exact htwo 7 _ (htwo 6 _ (htwo 5 _ (htwo 4 _ (htwo 3 _ (htwo 2 _ (htwo 1 _ (htwo 0 _ hzero)))))))

open Polynomial in
/-- A check that takes each byte at its top keeps the remainder of the message so far. -/
theorem dvd_fold {g : Polynomial (ZMod 2)} {n m : Nat} {f : BitVec n → Byte → BitVec n} (c : BitVec n)
    (h : ∀ c b, g ∣ bitsPoly (f c b) - X ^ 8 * (bitsPoly c + X ^ m * bitsPoly b)) (bs : List Byte) :
    g ∣ messagePoly bs * X ^ (m + 8) + bitsPoly c * X ^ (8 * bs.length) - bitsPoly (bs.foldl f c) := by
  induction bs using List.reverseRecOn with
  | nil => simp [messagePoly]
  | append_singleton bs b ih =>
    obtain ⟨q, hq⟩ := ih
    obtain ⟨q', hq'⟩ := h (bs.foldl f c) b
    have hmessage : messagePoly (bs ++ [b]) = messagePoly bs * X ^ 8 + bitsPoly b := by
      simp [messagePoly]
    have hlength : 8 * (bs ++ [b]).length = 8 * bs.length + 8 := by
      rw [List.length_append, List.length_singleton]
      omega
    refine ⟨X ^ 8 * q - q', ?_⟩
    rw [hmessage, hlength, List.foldl_append, List.foldl_cons, List.foldl_nil]
    linear_combination X ^ 8 * hq - hq'

open Polynomial in
theorem crc16_dvd (bs : List Byte) :
    generator (0x1021 : BitVec 16) ∣
      messagePoly bs * X ^ 16 + bitsPoly (0xFFFF : BitVec 16) * X ^ (8 * bs.length) - bitsPoly (crc16 bs) := by
  refine dvd_fold (m := 8) (0xFFFF : BitVec 16) (fun c b => ?_) bs
  have h := dvd_eight (g := generator (0x1021 : BitVec 16)) (f := crc16Bit) (generator_dvd_bit _)
    (c ^^^ (b.setWidth 16 <<< 8))
  rwa [bitsPoly_xor, bitsPoly_high] at h

open Polynomial in
theorem crc8_dvd (bs : List Byte) :
    generator (0x07 : BitVec 8) ∣ messagePoly bs * X ^ 8 - bitsPoly (crc8 bs) := by
  have hzero : bitsPoly (0 : BitVec 8) = 0 := by simp [bitsPoly]
  have h := dvd_fold (m := 0) (g := generator (0x07 : BitVec 8)) (f := crc8Byte) (0 : BitVec 8) (fun c b => by
    have hbyte := dvd_eight (g := generator (0x07 : BitVec 8)) (f := crc8Bit) (generator_dvd_bit _) (c ^^^ b)
    rw [bitsPoly_xor] at hbyte
    rwa [pow_zero, one_mul]) bs
  rwa [hzero, zero_mul, add_zero] at h

/-! ### A message with its own check -/

/-- A word is its high byte above its low byte. -/
theorem high_xor_low (c : BitVec 16) :
    c ^^^ ((BitVec.ofNat 8 (c.toNat / 256)).setWidth 16 <<< 8) = (BitVec.ofNat 8 c.toNat).setWidth 16 := by
  have hhigh : BitVec.ofNat 8 (c.toNat / 256) = (c >>> 8).setWidth 8 := by
    refine BitVec.eq_of_toNat_eq ?_
    simp [Nat.shiftRight_eq_div_pow]
  have hlow : BitVec.ofNat 8 c.toNat = c.setWidth 8 := rfl
  rw [hhigh, hlow]
  ext i hi
  by_cases h : i < 8
  · simp [h, BitVec.getLsbD_eq_getElem hi]
  · have hplace : 8 + (i - 8) = i := by omega
    simp [h, hplace, BitVec.getLsbD_eq_getElem hi]
    omega

/-- A low byte alone is shifted up, and no bit of it meets the generator. -/
theorem crc16Bit_low (b : Byte) :
    crc16Bit (crc16Bit (crc16Bit (crc16Bit (crc16Bit (crc16Bit (crc16Bit (crc16Bit (b.setWidth 16)))))))) =
      b.setWidth 16 <<< 8 := by
  decide +revert

/-- A check over its own two bytes comes to zero. -/
theorem crc16Byte_own (c : BitVec 16) :
    crc16Byte (crc16Byte c (BitVec.ofNat 8 (c.toNat / 256))) (BitVec.ofNat 8 c.toNat) = 0 := by
  rw [crc16Byte.eq_1 c, high_xor_low, crc16Bit_low, crc16Byte, BitVec.xor_self]
  decide

theorem crc8Byte_own (c : BitVec 8) : crc8Byte c c = 0 := by
  rw [crc8Byte, BitVec.xor_self]
  decide

/-- Settles O10, byte by byte from the front of the message. -/
theorem checksAreRemainders : Obligations.ChecksAreRemainders := by
  intro bs
  refine ⟨crc16_dvd bs, crc8_dvd bs, ?_, ?_⟩
  · have hbytes : toBytes 2 (crc16 bs).toNat =
        [BitVec.ofNat 8 ((crc16 bs).toNat / 256), BitVec.ofNat 8 (crc16 bs).toNat] := by
      simp [toBytes]
    have happend : ∀ xs ys, crc16 (xs ++ ys) = ys.foldl crc16Byte (crc16 xs) := fun xs ys => List.foldl_append
    rw [hbytes, happend]
    exact crc16Byte_own _
  · have happend : ∀ xs ys, crc8 (xs ++ ys) = ys.foldl crc8Byte (crc8 xs) := fun xs ys => List.foldl_append
    rw [withCheck, happend]
    exact crc8Byte_own _

end Sys2Proof.Machine

/-! What the operations on one bay leave of the others: one lemma each, in the order of the definitions. -/

namespace Sys2Proof.Machine

/-! ### Records that differ in their survey schedule alone (R139) -/

namespace SameButSchedule

variable {x y z : BayRec}

theorem refl (x : BayRec) : SameButSchedule x x := rfl

theorem trans (h : SameButSchedule x y) (h' : SameButSchedule y z) : SameButSchedule x z := by
  unfold SameButSchedule at *
  rw [h', h]

theorem phase (h : SameButSchedule x y) : y.phase = x.phase := by rw [h]
theorem slot (h : SameButSchedule x y) : y.slot = x.slot := by rw [h]
theorem filter (h : SameButSchedule x y) : y.filter = x.filter := by rw [h]
theorem thresholds (h : SameButSchedule x y) : y.thresholds = x.thresholds := by rw [h]
theorem staged (h : SameButSchedule x y) : y.staged = x.staged := by rw [h]
theorem line (h : SameButSchedule x y) : y.line = x.line := by rw [h]
theorem counter (h : SameButSchedule x y) : y.counter = x.counter := by rw [h]

end SameButSchedule

/-! ### Two relations -/

/-- Latches that are set stay set. -/
def LatchesStay (s t : State) : Prop := ∀ site k, s.latchOf site k ≠ none → t.latchOf site k ≠ none

/-- From `s` to `t` at most bay `b`, the table with its writer, and clear latches changed. -/
structure ActsOnly (b : Bay) (s t : State) : Prop where
  frame : t = { s with bays := t.bays, table := t.table, writer := t.writer, latches := t.latches }
  others : ∀ c, c ≠ b → t.bay c = s.bay c
  latched : LatchesStay s t

/-- As `ActsOnly`, and the other bays' survey schedules, run, converter and replies may have changed: what the leaving of
ACTIVE can touch. -/
structure ActsOn (b : Bay) (s t : State) : Prop where
  core : CoreKept s t
  lanes : t.lanes = s.lanes
  draws : t.nonceDraws = s.nonceDraws
  others : OthersKept s t b
  latched : LatchesStay s t

namespace ActsOnly

variable {b : Bay} {s t u : State}

theorem refl (s : State) : ActsOnly b s s := ⟨rfl, fun _ _ => rfl, fun _ _ => id⟩

theorem trans (h : ActsOnly b s t) (h' : ActsOnly b t u) : ActsOnly b s u where
  frame := by rw [h'.frame, h.frame]
  others c hc := (h'.others c hc).trans (h.others c hc)
  latched site k hl := h'.latched site k (h.latched site k hl)

theorem core (h : ActsOnly b s t) : CoreKept s t := by
  rw [h.frame]
  rfl

theorem lanes (h : ActsOnly b s t) : t.lanes = s.lanes := by rw [h.frame]
theorem lane (h : ActsOnly b s t) (l : Lane) : t.lane l = s.lane l := by rw [State.lane, h.lanes]; rfl
theorem draws (h : ActsOnly b s t) : t.nonceDraws = s.nonceDraws := by rw [h.frame]
theorem run (h : ActsOnly b s t) : t.run = s.run := by rw [h.frame]
theorem replies (h : ActsOnly b s t) : t.replies = s.replies := by rw [h.frame]
theorem converter (h : ActsOnly b s t) : t.converter = s.converter := by rw [h.frame]
theorem save (h : ActsOnly b s t) : t.save = s.save := h.core.save
theorem device (h : ActsOnly b s t) : t.device = s.device := h.core.device
theorem settings (h : ActsOnly b s t) : t.settings = s.settings := h.core.settings
theorem policy (h : ActsOnly b s t) : t.policy = s.policy := h.core.policy

theorem bayCfg (h : ActsOnly b s t) (c : Bay) : t.bayCfg c = s.bayCfg c := by
  rw [State.bayCfg, h.settings]
  rfl

theorem actsOn (h : ActsOnly b s t) : ActsOn b s t :=
  ⟨h.core, h.lanes, h.draws, fun c hc => h.others c hc ▸ SameButSchedule.refl _, h.latched⟩

end ActsOnly

namespace ActsOn

variable {b : Bay} {s t u : State}

theorem trans (h : ActsOn b s t) (h' : ActsOn b t u) : ActsOn b s u where
  core := h.core.trans h'.core
  lanes := h'.lanes.trans h.lanes
  draws := h'.draws.trans h.draws
  others c hc := (h.others c hc).trans (h'.others c hc)
  latched site k hl := h'.latched site k (h.latched site k hl)

theorem lane (h : ActsOn b s t) (l : Lane) : t.lane l = s.lane l := by rw [State.lane, h.lanes]; rfl

end ActsOn

variable (s : State) (b : Bay)

/-! ### Plain updates -/

theorem modBay_only (f : BayRec → BayRec) : ActsOnly b s (s.modBay b f) :=
  ⟨rfl, fun _ hc => bay_modBay_other s hc f, fun _ _ => id⟩

theorem modBinding_only (f : Binding → Binding) : ActsOnly b s (s.modBinding b f) := modBay_only s b _

theorem evalLine_only : ActsOnly b s (s.evalLine b) := modBay_only s b _

theorem setPhase_only (p : Phase) : ActsOnly b s (s.setPhase b p) := (modBay_only s b _).trans (evalLine_only _ b)

theorem setTable_only (t : List Entry) : ActsOnly b s (s.setTable t) := by
  rw [setTable_frame]
  exact ⟨rfl, fun _ _ => rfl, fun _ _ => id⟩

theorem flushTable_only (t : List Entry) : ActsOnly b s (s.flushTable t) := by
  rw [flushTable_frame]
  exact ⟨rfl, fun _ _ => rfl, fun _ _ => id⟩

/-- A latch sets its pair and leaves the others. -/
theorem latch_stays (site : Site) (k : Kind) : LatchesStay s (s.latch site k) := by
  intro site' k' h
  by_cases hset : s.latchOf site k.code = none
  · rw [State.latch, latchPair_of_clear _ hset, latchOf_setLatch]
    split
    · exact Option.some_ne_none _
    · exact h
  · rwa [State.latch, latchPair_of_set _ hset]

/-- A latch is set once it has been latched. -/
theorem latch_set (site : Site) (k : Kind) : (s.latch site k).latchOf site k.code ≠ none := by
  by_cases hset : s.latchOf site k.code = none
  · rw [State.latch, latchPair_of_clear _ hset, latchOf_setLatch, if_pos ⟨rfl, rfl⟩]
    exact Option.some_ne_none _
  · rwa [State.latch, latchPair_of_set _ hset]

theorem latch_only (site : Site) (k : Kind) : ActsOnly b s (s.latch site k) := by
  have hstay := latch_stays s site k
  rw [latch_frame] at hstay ⊢
  exact ⟨rfl, fun _ _ => rfl, hstay⟩

@[simp] theorem latch_bay (site : Site) (k : Kind) (c : Bay) : (s.latch site k).bay c = s.bay c := by
  rw [latch_frame]
  rfl

@[simp] theorem setTable_bay (t : List Entry) (c : Bay) : (s.setTable t).bay c = s.bay c := by
  rw [setTable_frame]
  rfl

@[simp] theorem flushTable_bay (t : List Entry) (c : Bay) : (s.flushTable t).bay c = s.bay c := by
  rw [flushTable_frame]
  rfl

/-! ### Levels, commit record and evidence -/

theorem latchInk_only (x y : InkState) : ActsOnly b s (s.latchInk b x y) := by
  unfold State.latchInk
  split
  all_goals first | exact latch_only s b _ _ | exact ActsOnly.refl s

theorem computeInk_only : ActsOnly b s (s.computeInk b) := by
  unfold State.computeInk
  split
  · exact ActsOnly.refl s
  · exact (modBinding_only s b _).trans ((latchInk_only _ b _ _).trans (evalLine_only _ b))

theorem shadowIfSaving_only : ActsOnly b s (s.shadowIfSaving b) := by
  unfold State.shadowIfSaving
  split
  · exact ActsOnly.refl s
  · exact flushTable_only s b _

theorem changeCommit_only (f : Binding → Binding) : ActsOnly b s (s.changeCommit b f) :=
  (modBinding_only s b f).trans (shadowIfSaving_only _ b)

theorem raiseHigh_only (c : Nat) : ActsOnly b s (s.raiseHigh b c) := setTable_only s b _

theorem addEvidence_only (k : EvidenceKind) : ActsOnly b s (s.addEvidence b k) := by
  unfold State.addEvidence
  split
  · exact ActsOnly.refl s
  · split
    · exact ActsOnly.refl s
    · dsimp only
      split
      · exact (modBinding_only s b _).trans ((flushTable_only _ b _).trans ((latch_only _ b _ _).trans (evalLine_only _ b)))
      · exact modBinding_only s b _

theorem checkCounter_only (c : Nat) : ActsOnly b s (s.checkCounter b c) := by
  unfold State.checkCounter
  split
  · exact ActsOnly.refl s
  · split
    · exact addEvidence_only s b _
    · exact raiseHigh_only s b c

theorem evalTriggers_only (n : Nat) : ActsOnly b s (s.evalTriggers b n) := by
  unfold State.evalTriggers
  split
  · exact ActsOnly.refl s
  · split
    · exact (modBay_only s b _).trans (changeCommit_only _ b _)
    · exact ActsOnly.refl s

theorem evalStep_only : ActsOnly b s (s.evalStep b) := evalTriggers_only s b _

theorem placeFinal_only : ActsOnly b s (s.placeFinal b) := (modBay_only s b _).trans (changeCommit_only _ b _)

theorem launch_only (fin : Bool) : ActsOnly b s (s.launch b fin) := changeCommit_only s b _

theorem lostAdvance_only : ActsOnly b s (s.lostAdvance b) := by
  unfold State.lostAdvance
  split
  · exact ActsOnly.refl s
  · split <;> first | exact ActsOnly.refl s | exact (modBay_only s b _).trans (changeCommit_only _ b _)

theorem enterRejected_only (reason : RejectReason) : ActsOnly b s (s.enterRejected b reason) :=
  (setPhase_only s b _).trans (latch_only _ b _ _)

/-! ### What the leaving of ACTIVE touches (R139, R149, R153, R154) -/

/-- Every bay keeps its record but for its survey schedule. -/
def AllScheduled (s t : State) : Prop := ∀ c, SameButSchedule (s.bay c) (t.bay c)

/-- The start of a pass makes its members wanted (R153). -/
theorem startPass_bay (r : SurveyRun) (c : Bay) : (s.startPass r).bay c =
    { s.bay c with wanted := (s.bay c).wanted || (r.listed[c] && s.surveyable c) } := by
  have hbay := bay_mapBays s c fun b rec => { rec with wanted := rec.wanted || (r.listed[b] && s.surveyable b) }
  exact hbay

theorem startPass_scheduled (r : SurveyRun) : AllScheduled s (s.startPass r) := fun c => by
  rw [startPass_bay]
  rfl

theorem endRun_bays : s.endRun.bays = s.bays := by rw [endRun_frame]

theorem startPasses_scheduled (n : Nat) : AllScheduled s (State.startPasses n s) := by
  induction n generalizing s with
  | zero =>
    intro c
    rw [State.startPasses, State.bay, State.bay, endRun_bays]
    exact SameButSchedule.refl _
  | succ n ih =>
    unfold State.startPasses
    split
    · exact fun _ => SameButSchedule.refl _
    · next r _ =>
      dsimp only
      split
      · exact startPass_scheduled s r
      · split
        · exact startPass_scheduled s r
        · exact fun c => (startPass_scheduled s r c).trans (ih _ c)

theorem passCheck_scheduled : AllScheduled s s.passCheck := by
  unfold State.passCheck
  split
  · exact fun _ => SameButSchedule.refl _
  · split
    · exact fun _ => SameButSchedule.refl _
    · exact startPasses_scheduled s _

@[simp] theorem discardConversion_bay (c : Bay) : (s.discardConversion b).bay c = s.bay c := by
  rw [discardConversion_frame]
  rfl

theorem leftActive_scheduled (removed : Bool) : AllScheduled s (s.leftActive b removed) := by
  have hcleared : AllScheduled s
      ((s.modBay b fun r => { r with wanted := false, surveyTimer := none, due := none }).discardConversion b) := by
    intro c
    rw [discardConversion_bay, bay_modBay]
    split
    · next h => rw [← h]; rfl
    · rfl
  unfold State.leftActive
  dsimp only
  split
  · exact hcleared
  · exact fun c => (hcleared c).trans (passCheck_scheduled _ c)

/-- Without a run, the leaving of ACTIVE places no reply. -/
theorem leftActive_replies (removed : Bool) (h : s.run = none) : (s.leftActive b removed).replies = s.replies := by
  unfold State.leftActive
  dsimp only
  have hrun : ((s.modBay b fun r => { r with wanted := false, surveyTimer := none, due := none }).discardConversion b).run =
      none := by
    rw [discardConversion_frame]
    exact h
  rw [hrun]
  dsimp only
  rw [discardConversion_frame]
  rfl

theorem leftActive_on (removed : Bool) : ActsOn b s (s.leftActive b removed) := by
  refine ⟨leftActive_core s b removed, ?_, ?_, fun c _ => leftActive_scheduled s b removed c, fun site k hl => ?_⟩
  · rw [leftActive_frame]
  · rw [leftActive_frame]
  · rw [leftActive_frame]
    exact hl

theorem placeLong_on (r : Bool) (ticket : Byte) (k : ReqKind) (res : Result) (body : List Byte) :
    ActsOn b s (s.placeLong r ticket k res body) := by
  rw [placeLong_frame]
  exact ⟨rfl, rfl, rfl, fun _ _ => SameButSchedule.refl _, fun _ _ => id⟩

theorem completeRelease_on (rel : Release) (res : Result) : ActsOn b s (s.completeRelease b rel res) := by
  unfold State.completeRelease
  split
  · exact (ActsOnly.refl s).actsOn
  · exact ((modBay_only s b _).trans (evalLine_only _ b)).actsOn.trans
      ((leftActive_on _ b false).trans (placeLong_on _ b _ _ _ _ _))

theorem afterIdle_on (fin : Bool) : ActsOn b s (s.afterIdle b fin) := by
  unfold State.afterIdle
  split
  · exact (ActsOnly.refl s).actsOn
  · split
    · split
      · exact completeRelease_on s b _ _
      · exact (placeFinal_only s b).actsOn
    · exact (evalStep_only s b).actsOn

theorem afterHalt_on : ActsOn b s (s.afterHalt b) := by
  unfold State.afterHalt
  split
  · exact (ActsOnly.refl s).actsOn
  · split
    · exact completeRelease_on s b _ _
    · exact (ActsOnly.refl s).actsOn

theorem commitComplete_on (c : Nat) (fin : Bool) : ActsOn b s (s.commitComplete b c fin) :=
  ((changeCommit_only s b _).trans (computeInk_only _ b)).actsOn.trans (afterIdle_on _ b fin)

theorem stopCommits_on (k : EvidenceKind) : ActsOn b s (s.stopCommits b k) :=
  ((addEvidence_only s b k).trans ((changeCommit_only _ b _).trans ((latch_only _ b _ _).trans
    (computeInk_only _ b)))).actsOn.trans (afterHalt_on _ b)

theorem flightUnknown_on : ActsOn b s (s.flightUnknown b) := by
  unfold State.flightUnknown
  split
  · exact (ActsOnly.refl s).actsOn
  · split
    · exact (ActsOnly.refl s).actsOn
    · exact ((changeCommit_only s b _).trans (latch_only _ b _ _)).actsOn.trans (afterHalt_on _ b)

theorem advanceCounter_on (c : Nat) : ActsOn b s (s.advanceCounter b c) := by
  unfold State.advanceCounter
  split
  · exact (ActsOnly.refl s).actsOn
  · split <;> try exact (ActsOnly.refl s).actsOn
    dsimp only
    split
    · exact (raiseHigh_only s b c).actsOn.trans (commitComplete_on _ b _ _)
    · split <;> exact (raiseHigh_only s b c).actsOn.trans (stopCommits_on _ b _)

theorem reconcileCounter_on (c : Nat) : ActsOn b s (s.reconcileCounter b c) := by
  unfold State.reconcileCounter
  split
  · exact (ActsOnly.refl s).actsOn
  · split <;> try exact (ActsOnly.refl s).actsOn
    dsimp only
    split
    · exact (checkCounter_only s b c).actsOn.trans (commitComplete_on _ b _ _)
    · exact ((checkCounter_only s b c).trans ((changeCommit_only _ b _).trans (computeInk_only _ b))).actsOn.trans
        (afterIdle_on _ b false)

theorem withdraw_on : ActsOn b s (s.withdraw b) := by
  unfold State.withdraw
  split
  · exact (ActsOnly.refl s).actsOn
  · split
    · dsimp only
      have hidle := (modBay_only s b fun r => { r with slot := none }).trans
        (changeCommit_only _ b fun bd => bd.setCommit .idle)
      split
      · exact hidle.actsOn.trans (completeRelease_on _ b _ _)
      · exact hidle.actsOn
    · exact (ActsOnly.refl s).actsOn

theorem unbind_on (next : Phase) (removed : Bool) : ActsOn b s (s.unbind b next removed) := by
  unfold State.unbind
  split
  · exact (ActsOnly.refl s).actsOn
  · next bd _ =>
    have hclosed := (flushTable_only s b (s.withEntry b fun e => { bd.shadow e with bay := none })).trans
      (modBay_only _ b fun r =>
        { r with phase := next, thresholds := r.staged.getD r.thresholds, staged := none, counter := 0 })
    dsimp only
    have hended : ∀ t : State, ActsOn b s t →
        ActsOn b s (if s.isActive b then (t.evalLine b).leftActive b removed else t.evalLine b) := by
      intro t ht
      split
      · exact ht.trans ((evalLine_only t b).actsOn.trans (leftActive_on _ b removed))
      · exact ht.trans (evalLine_only t b).actsOn
    apply hended
    split
    · exact hclosed.actsOn.trans (placeLong_on _ b _ _ _ _ _)
    · exact hclosed.actsOn

theorem badResponse_on : ActsOn b s (s.badResponse b) := (unbind_on s b _ false).trans (latch_only _ b _ _).actsOn

theorem leavePhase_on (next : Phase) (removed : Bool) : ActsOn b s (s.leavePhase b next removed) := by
  unfold State.leavePhase
  split
  · exact unbind_on s b next removed
  · exact (setPhase_only s b next).actsOn

/-! ### Binding and surveys -/

theorem bind_only (rec' : TagRecord) (k : KeySlot) (c0 : Nat) : ActsOnly b s (s.bind b rec' k c0) := by
  unfold State.bind
  dsimp only
  split
  · exact (modBay_only s b _).trans ((flushTable_only _ b _).trans ((computeInk_only _ b).trans
      ((latch_only _ b _ _).trans ((latch_only _ b _ _).trans (evalStep_only _ b)))))
  · exact (modBay_only s b _).trans ((flushTable_only _ b _).trans ((computeInk_only _ b).trans
      ((latch_only _ b _ _).trans (evalStep_only _ b))))

theorem identified_only (rec' : TagRecord) (c0 : Nat) : ActsOnly b s (s.identified b rec' c0) := by
  unfold State.identified
  split
  · exact enterRejected_only s b _
  · split
    · exact (enterRejected_only s b _).trans ((flushTable_only _ b _).trans (latch_only _ b _ _))
    · split
      · exact bind_only s b _ _ _
      · exact enterRejected_only s b _

theorem reinsertStep_only (bd : Binding) (n : Nat) : ActsOnly b s (s.reinsertStep b bd n) := by
  unfold State.reinsertStep
  split
  · split
    · exact addEvidence_only s b _
    · exact ActsOnly.refl s
  all_goals exact ActsOnly.refl s

theorem counterStep_only (bd : Binding) (n : Nat) : ActsOnly b s (s.counterStep b bd n) := by
  unfold State.counterStep
  split
  · split
    · exact (modBay_only s b _).trans (addEvidence_only _ b _)
    · exact modBay_only s b _
  · exact modBay_only s b _

theorem lastSensedStep_only (n : Nat) : ActsOnly b s (s.lastSensedStep b n) :=
  (setTable_only s b _).trans (modBinding_only _ b _)

theorem survey_only (bd : Binding) (raw : Nat) : ActsOnly b s (s.survey b bd raw) :=
  (reinsertStep_only s b bd _).trans ((counterStep_only _ b bd _).trans (lastSensedStep_only _ b _))

end Sys2Proof.Machine

/-! What the operations on one bay leave of it, and the lane and converter arbiters: O26, O35, O48, O49 and O51. -/

namespace Sys2Proof.Machine

variable {s : State} {b : Bay} {bd : Binding}

/-! ### Lines -/

/-- An evaluation rewrites the line of its bay by the target then formed (R129). -/
theorem evalLine_bay (s : State) (b : Bay) :
    (s.evalLine b).bay b = { s.bay b with line := (s.bay b).line.evaluate (s.target b) } := bay_modBay_same s b _

theorem evalLine_bay_other (s : State) {b c : Bay} (h : c ≠ b) : (s.evalLine b).bay c = s.bay c := bay_modBay_other s h _

theorem evaluate_inhibit (l : Line) : l.evaluate .inhibit = .inhibit := rfl

/-- A bay state that is neither ACTIVE nor REJECTED has the target INHIBIT, whatever the device state (R127). -/
theorem target_closed (ha : (s.bay b).phase.active? = none) (hr : ∀ reason d, (s.bay b).phase ≠ .rejected reason d) :
    s.target b = .inhibit := by
  by_cases hd : s.device = .running
  · rw [target_running hd, phase_target_closed s.policy ha hr]
  · exact target_not_running hd

/-- Lines follow device, policy and the bay's own state alone (R127). -/
theorem target_congr {t : State} (hd : t.device = s.device) (hp : t.policy = s.policy)
    (hphase : (t.bay b).phase = (s.bay b).phase) : t.target b = s.target b := by
  unfold State.target
  rw [hd, hp, hphase]

/-- A new bay state with the line that its evaluation gives (R130). -/
theorem setPhase_bay (s : State) (b : Bay) (p : Phase) :
    (s.setPhase b p).bay b =
      { s.bay b with phase := p, line := (s.bay b).line.evaluate ((s.setPhase b p).target b) } := by
  have htarget : (s.setPhase b p).target b = (s.modBay b fun r => { r with phase := p }).target b :=
    target_congr rfl rfl (by rw [State.setPhase, evalLine_bay])
  rw [htarget, State.setPhase, evalLine_bay, bay_modBay_same]

/-- A bay state without a binding that is not REJECTED inhibits its line (R127, R130). -/
theorem setPhase_bay_closed (s : State) (b : Bay) {p : Phase} (ha : p.active? = none) (hr : ∀ reason d, p ≠ .rejected reason d) :
    (s.setPhase b p).bay b = { s.bay b with phase := p, line := .inhibit } := by
  have hphase : ((s.setPhase b p).bay b).phase = p := by rw [setPhase_bay]
  rw [setPhase_bay, target_closed (by rw [hphase]; exact ha) (by rw [hphase]; exact hr), evaluate_inhibit]

/-! ### The commit record -/

theorem changeCommit_active (h : (s.bay b).phase = .active bd) (f : Binding → Binding) :
    (s.changeCommit b f).bay b = { s.bay b with phase := .active (f bd) } := by
  rw [changeCommit_bay, State.modBinding, bay_modBay_same, h]
  rfl

theorem changeCommit_latches (s : State) (b : Bay) (f : Binding → Binding) : (s.changeCommit b f).latches = s.latches := by
  rw [changeCommit_frame]
  rfl

theorem active_of_phase (h : (s.bay b).phase = .active bd) : (s.bay b).phase.active? = some bd := by rw [h]; rfl

/-! ### Ink states (R124, R125) -/

/-- A latch goes by the latches and the routing alone. -/
theorem latch_latches_congr {s t : State} (hl : t.latches = s.latches) (hs : t.settings = s.settings) (site : Site)
    (k : Kind) : (t.latch site k).latches = (s.latch site k).latches := by
  have hof : t.latchOf site k.code = s.latchOf site k.code := by rw [State.latchOf, hl, State.latchOf]
  by_cases hset : s.latchOf site k.code = none
  · rw [State.latch, State.latch, latchPair_of_clear _ hset, latchPair_of_clear _ (hof.trans hset)]
    simp only [State.setLatch, hl, hs]
  · rw [State.latch, State.latch, latchPair_of_set _ hset, latchPair_of_set _ (by rwa [hof]), hl]

theorem latchInk_latches_congr {s t : State} (hl : t.latches = s.latches) (hs : t.settings = s.settings) (b : Bay)
    (x y : InkState) : (t.latchInk b x y).latches = (s.latchInk b x y).latches := by
  unfold State.latchInk
  split
  all_goals first | exact latch_latches_congr hl hs _ _ | exact hl

@[simp] theorem latchInk_bay (s : State) (b c : Bay) (x y : InkState) : (s.latchInk b x y).bay c = s.bay c := by
  rw [latchInk_frame]
  rfl

/-- A computation of the ink state of an ACTIVE bay (R124). -/
theorem computeInk_active (h : (s.bay b).phase = .active bd) :
    s.computeInk b = ((s.modBinding b fun x => x.setInk (inkOf (s.bay b).thresholds bd.capacity bd.remaining)).latchInk b
      bd.ink (inkOf (s.bay b).thresholds bd.capacity bd.remaining)).evalLine b := by
  unfold State.computeInk
  rw [active_of_phase h]

theorem modBinding_active (h : (s.bay b).phase = .active bd) (f : Binding → Binding) :
    (s.modBinding b f).bay b = { s.bay b with phase := .active (f bd) } := by
  rw [State.modBinding, bay_modBay_same, h]
  rfl

/-- The bay after it: its ink state is set, and its line evaluated (R124). -/
theorem computeInk_bay (h : (s.bay b).phase = .active bd) :
    (s.computeInk b).bay b =
      { s.bay b with
        phase := .active (bd.setInk (inkOf (s.bay b).thresholds bd.capacity bd.remaining))
        line := (s.bay b).line.evaluate ((s.computeInk b).target b) } := by
  have htarget : ∀ t : State, (t.evalLine b).target b = t.target b := fun t =>
    target_congr rfl rfl (by rw [evalLine_bay])
  rw [computeInk_active h, htarget, evalLine_bay, latchInk_bay, modBinding_active h]

/-- The latches after it (R125). -/
theorem computeInk_latches (h : (s.bay b).phase = .active bd) :
    (s.computeInk b).latches = (s.latchInk b bd.ink (inkOf (s.bay b).thresholds bd.capacity bd.remaining)).latches := by
  rw [computeInk_active h]
  exact latchInk_latches_congr (s := s)
    (t := s.modBinding b fun x => x.setInk (inkOf (s.bay b).thresholds bd.capacity bd.remaining)) rfl rfl b _ _

/-! ### Triggers (R100, R101) -/

/-- A trigger that fires queues a COMMIT (R100, R101). -/
theorem evalTriggers_fires (h : (s.bay b).phase = .active bd) (hidle : bd.commit.state = .idle)
    (hrel : bd.commit.release = none) {n : Nat} (hfires : bd.fires n = true) :
    (s.evalTriggers b n).bay b =
      { s.bay b with
        slot := some .commit
        phase := .active { bd with commit := { bd.commit with state := .queued, levelSeen := bd.ink } } } := by
  unfold State.evalTriggers
  rw [active_of_phase h]
  dsimp only
  rw [if_pos (by simp [hidle, hrel, hfires]),
    changeCommit_active (bd := bd) (by rw [bay_modBay_same]; exact h), bay_modBay_same]

/-- Without one nothing happens (R100). -/
theorem evalTriggers_quiet (h : (s.bay b).phase = .active bd) {n : Nat}
    (hno : bd.commit.state ≠ .idle ∨ bd.commit.release ≠ none ∨ bd.fires n = false) : s.evalTriggers b n = s := by
  unfold State.evalTriggers
  rw [active_of_phase h]
  dsimp only
  rw [if_neg]
  rcases hno with h' | h' | h' <;> simp [h', Option.isNone_iff_eq_none]

theorem evalTriggers_inactive (h : (s.bay b).phase.active? = none) (n : Nat) : s.evalTriggers b n = s := by
  unfold State.evalTriggers
  rw [h]

/-- Triggers touch no latch. -/
theorem evalTriggers_latches (s : State) (b : Bay) (n : Nat) : (s.evalTriggers b n).latches = s.latches := by
  unfold State.evalTriggers
  split
  · rfl
  · split
    · rw [changeCommit_latches]
      rfl
    · rfl

/-- When a trigger fires (R100, R101). -/
theorem fires_iff (bd : Binding) (n : Nat) :
    bd.fires n = true ↔ n ≤ bd.acct.pending - bd.acct.inflight ∨
      (bd.commit.levelSeen.code < bd.ink.code ∧ 1 ≤ bd.acct.pending - bd.acct.inflight) := by
  simp only [Binding.fires, Bool.or_eq_true, Bool.and_eq_true, decide_eq_true_eq]
  rfl

/-- Settles O51. -/
theorem inkAndTriggersHandedOn : Obligations.InkAndTriggersHandedOn := by
  refine ⟨fun t capacity remaining => ⟨fun h => ?_, fun h h' => ?_, fun h h' => ?_⟩,
    fun s b => ⟨handOn_of_not_active, fun bd h => ?_⟩⟩
  · rw [inkOf, if_pos h]
  · rw [inkOf, if_neg (by omega), if_pos h']
  · rw [inkOf, if_neg (by omega), if_neg (by omega)]
  dsimp only
  have hbay := computeInk_bay h
  have hlatches := computeInk_latches h
  have hcfg : (s.computeInk b).bayCfg b = s.bayCfg b := (computeInk_only s b).bayCfg b
  generalize hink : inkOf (s.bay b).thresholds bd.capacity bd.remaining = ink at hbay hlatches ⊢
  have hphase : ((s.computeInk b).bay b).phase = .active (bd.setInk ink) := by rw [hbay]
  refine ⟨computeInk_frame s b, ?_, by rw [hbay], fun c hc => (computeInk_only s b).others c hc, fun hb ha => ?_,
    fun hb ha => ?_, fun hsame => ?_, fun hidle hrel hfires => ?_, fun hquiet => ?_⟩
  · rw [hbay]
    rfl
  · rw [hlatches, hb, ha]
    rfl
  · rw [hlatches, ha]
    cases hbi : bd.ink with
    | normal => rfl
    | low => rfl
    | out => exact absurd hbi hb
  · rw [hlatches]
    rcases hsame with hi | hi | hi <;> rw [hi]
    · cases ink <;> rfl
    · cases ink <;> rfl
    · cases bd.ink <;> rfl
  · have hf : (bd.setInk ink).fires ((s.computeInk b).bayCfg b).commitStep = true := by
      rw [hcfg]
      exact (fires_iff _ _).mpr hfires
    have htrigger := evalTriggers_fires hphase hidle hrel hf
    exact ⟨congrArg BayRec.slot htrigger, congrArg BayRec.phase htrigger⟩
  · refine evalTriggers_quiet hphase (hquiet.imp id (Or.imp id fun ⟨hstep, hlevel⟩ => ?_))
    rw [hcfg, ← Bool.not_eq_true, fires_iff]
    show ¬(_ ≤ bd.acct.pending - bd.acct.inflight ∨
      ((if ink.code < bd.commit.levelSeen.code then ink else bd.commit.levelSeen).code < ink.code ∧
        1 ≤ bd.acct.pending - bd.acct.inflight))
    omega

/-! ### COMMIT_SET and COMMIT_RETRY (R99, R112) -/

/-- A change of settings leaves all but the writer. -/
theorem settingsChanged_bay (s : State) (c : Bay) : s.settingsChanged.bay c = s.bay c := by
  rw [settingsChanged_frame]
  rfl

theorem settingsChanged_bayCfg (s : State) (c : Bay) : s.settingsChanged.bayCfg c = s.bayCfg c := by
  rw [settingsChanged_frame]
  rfl

/-- COMMIT_SET at its take (R99). -/
theorem exec_commitSet_bay {r : Request} {rest : List Request} {n : Nat} (hn : n < 256) (h : Taking s .commitSet r rest)
    (hb : r.body = toBytes 1 b.val ++ toBytes 1 n) :
    exec .commitSet s = .next ((((((s.dequeued rest).modBayCfg b fun c =>
      { c with commitStep := max 1 (min 64 n) }).settingsChanged).evalStep b).runArbiters.place
        (r.answer .ok (toBytes 1 (max 1 (min 64 n)))))) := by
  have hsecond : r.byteAt 1 = n := byteAt_second (tail := []) hn (by rw [hb, List.append_nil])
  show execCommitSet s = _
  rw [execCommitSet, take_taking h (by simp [hb, ReqKind.lengthOk]), withBay_bay hb, hsecond]
  rfl

/-- Settles O26. -/
theorem commitSetStores : Obligations.CommitSetStores := by
  intro s r rest b n h hn hb
  have hbay : ∀ c, (((s.dequeued rest).modBayCfg b fun c =>
      { c with commitStep := max 1 (min 64 n) }).settingsChanged).bay c = s.bay c := fun c => by
    rw [settingsChanged_bay]
    rfl
  have hcfg : ∀ c, (((s.dequeued rest).modBayCfg b fun c =>
      { c with commitStep := max 1 (min 64 n) }).settingsChanged).bayCfg c =
      if b = c then { s.bayCfg b with commitStep := max 1 (min 64 n) } else s.bayCfg c := fun c => by
    rw [settingsChanged_bayCfg, bayCfg_modBayCfg]
    rfl
  have hframe : ((s.dequeued rest).modBayCfg b fun c =>
      { c with commitStep := max 1 (min 64 n) }).settingsChanged.latches = s.latches ∧
      ((s.dequeued rest).modBayCfg b fun c =>
        { c with commitStep := max 1 (min 64 n) }).settingsChanged.replies = s.replies ∧
      ((s.dequeued rest).modBayCfg b fun c =>
        { c with commitStep := max 1 (min 64 n) }).settingsChanged.lanes = s.lanes ∧
      ((s.dequeued rest).modBayCfg b fun c =>
        { c with commitStep := max 1 (min 64 n) }).settingsChanged.policy = s.policy := by
    rw [settingsChanged_frame]
    exact ⟨rfl, rfl, rfl, rfl⟩
  refine ⟨_, exec_commitSet_bay hn h hb, ?_⟩
  generalize ((s.dequeued rest).modBayCfg b fun c =>
    { c with commitStep := max 1 (min 64 n) }).settingsChanged = u at hbay hcfg hframe ⊢
  obtain ⟨hlatches, hreplies, hlanes, hpolicy⟩ := hframe
  have hacts := evalStep_only u b
  have hstep : (u.bayCfg b).commitStep = max 1 (min 64 n) := by rw [hcfg, if_pos rfl]
  refine ⟨?_, fun c hc => ⟨?_, ?_⟩, fun bd hp hidle hrel hfree => ?_, fun bd hp hno => ?_, fun hp => ?_, ?_, ?_, ?_, ?_⟩
  · rw [hacts.bayCfg, hcfg, if_pos rfl]
  · rw [hacts.bayCfg, hcfg, if_neg hc.symm]
  · rw [hacts.others c hc, hbay]
  · have hp' : (u.bay b).phase = .active bd := by rw [hbay]; exact hp
    have htrigger := evalTriggers_fires hp' hidle hrel (n := (u.bayCfg b).commitStep)
      ((fires_iff _ _).mpr (.inl (by rw [hstep]; exact hfree)))
    exact ⟨congrArg BayRec.slot htrigger, congrArg BayRec.phase htrigger⟩
  · have hp' : (u.bay b).phase = .active bd := by rw [hbay]; exact hp
    rw [State.evalStep, evalTriggers_quiet hp' (hno.imp id .inl), hbay]
  · rw [State.evalStep, evalTriggers_inactive (by rw [hbay]; exact hp), hbay]
  · rw [State.evalStep, evalTriggers_latches, hlatches]
  · rw [hacts.replies, hreplies]
  · rw [hacts.lanes, hlanes]
  · rw [hacts.policy, hpolicy]

/-- The target that a COMMIT_RETRY reconciles (R112). -/
theorem retryTarget_eq_some {p : Phase} {T : Nat} :
    p.retryTarget = some T ↔ ∃ bd, p = .active bd ∧ bd.commit.state = .uncertain T := by
  unfold Phase.retryTarget
  cases p with
  | active bd =>
    simp only [Phase.active?, Phase.active.injEq, exists_eq_left']
    cases bd.commit.state <;> simp
  | _ => simp [Phase.active?]

/-- Settles O35. -/
theorem commitRetryReconciles : Obligations.CommitRetryReconciles := by
  intro s r rest b h hb
  have hexec : exec .commitRetry s = .next (match (s.bay b).phase.retryTarget with
      | some target => ((s.dequeued rest).retryCommit b target).runArbiters.reply r .ok []
      | none => (s.dequeued rest).reply r .bayState []) := by
    show execCommitRetry s = _
    rw [execCommitRetry, take_taking h (by simp [hb, ReqKind.lengthOk]), withBay_only hb] <;> rfl
  refine ⟨fun bd T hp hT => ?_, fun hno => ?_⟩
  · rw [retryTarget_eq_some.mpr ⟨bd, hp, hT⟩] at hexec
    have hslot := modBay_only (s.dequeued rest) b fun x => { x with slot := some .reconcile }
    have hacts := hslot.trans (changeCommit_only _ b fun bd => bd.setCommit (.reconciling T false))
    have hbay := changeCommit_active (s := (s.dequeued rest).modBay b fun x => { x with slot := some .reconcile }) (bd := bd)
      (by rw [bay_modBay_same]; exact hp) fun bd => bd.setCommit (.reconciling T false)
    rw [bay_modBay_same] at hbay
    refine ⟨_, hexec, congrArg BayRec.slot hbay, congrArg BayRec.phase hbay, fun c hc => hacts.others c hc, ?_, hacts.replies,
      fun hsave => ?_⟩
    · rw [State.retryCommit, changeCommit_latches]
      rfl
    · rw [State.retryCommit, changeCommit_none _ _ _ (show ((s.dequeued rest).modBay b _).save = .none from hsave)]
      exact ⟨rfl, rfl⟩
  · have hnone : (s.bay b).phase.retryTarget = none := by
      rw [Option.eq_none_iff_forall_ne_some]
      intro T hT
      obtain ⟨bd, hp, hs⟩ := retryTarget_eq_some.mp hT
      exact hno bd T hp hs
    rw [hexec, hnone]
    rfl

end Sys2Proof.Machine

/-! The lane arbiters and the converter arbiter: O48, O49 and O52. -/

namespace Sys2Proof.Machine

/-! ### The converter arbiter (R138 to R141) -/

section

variable (s : State)

theorem refreshDue_bay (b : Bay) : s.refreshDue.bay b = s.refreshBay b (s.bay b) := by
  unfold State.refreshDue
  rw [mapLanes_bay, bay_mapBays]

theorem refreshDue_lane (l : Lane) :
    s.refreshDue.lane l = s.refreshLane l (s.lane l) := by
  unfold State.refreshDue
  rw [lane_mapLanes, mapBays_lane]

theorem refreshBay_schedule (b : Bay) (r : BayRec) : SameButSchedule r (s.refreshBay b r) := by
  unfold State.refreshBay
  generalize (if s.bayDue b then r.due.or (some s.now) else none) = due
  rfl

theorem refreshDue_scheduled : AllScheduled s s.refreshDue := fun b => by
  rw [refreshDue_bay]
  exact refreshBay_schedule s b _

/-- The converter takes the channel of a bay, which is then neither wanted nor timed nor due (R137, R139). -/
theorem takeBay_bay (b : Bay) : (s.takeBay b).bay b = { s.bay b with wanted := false, surveyTimer := none, due := none } :=
  bay_modBay_same s b fun r => { r with wanted := false, surveyTimer := none, due := none }

theorem takeBay_scheduled (b : Bay) : AllScheduled s (s.takeBay b) := fun c => by
  by_cases hc : c = b
  · subst hc
    rw [takeBay_bay]
    rfl
  · have hother : (s.takeBay b).bay c = s.bay c :=
      bay_modBay_other s hc fun r => { r with wanted := false, surveyTimer := none, due := none }
    rw [hother]
    exact SameButSchedule.refl _

theorem converterArbiter_scheduled : AllScheduled s s.converterArbiter := by
  unfold State.converterArbiter
  split
  · split
    · exact fun _ => SameButSchedule.refl _
    · split
      · exact takeBay_scheduled s _
      · exact fun _ => SameButSchedule.refl _
  · exact fun _ => SameButSchedule.refl _

theorem settleConverter_scheduled : AllScheduled s s.settleConverter := fun b =>
  (refreshDue_scheduled s b).trans (converterArbiter_scheduled _ b)

/-- The converter arbiter leaves of a lane all but its supply timer and due time (R141). -/
theorem settleConverter_lane (l : Lane) : s.settleConverter.lane l =
    { s.lane l with supplyTimer := (s.settleConverter.lane l).supplyTimer, supplyDue := (s.settleConverter.lane l).supplyDue } := by
  have hrefresh : ∀ t : State, t.lane l = { s.lane l with supplyTimer := (t.lane l).supplyTimer, supplyDue := (t.lane l).supplyDue } →
      t.converterArbiter.lane l = { s.lane l with
        supplyTimer := (t.converterArbiter.lane l).supplyTimer, supplyDue := (t.converterArbiter.lane l).supplyDue } := by
    intro t ht
    unfold State.converterArbiter
    split
    · split
      · next m _ =>
        have hlane : (t.takeLane m).lane l = if m = l then { t.lane m with supplyTimer := none, supplyDue := none } else t.lane l :=
          lane_modLane t m l fun r => { r with supplyTimer := none, supplyDue := none }
        rw [hlane]
        split
        · next hm => subst hm; rw [ht]
        · exact ht
      · split
        · exact ht
        · exact ht
    · exact ht
  refine hrefresh _ ?_
  rw [refreshDue_lane]
  unfold State.refreshLane
  split
  · split <;> rfl
  · rfl

end

/-! ### What the arbiters leave (R31, R34, R104) -/

namespace BayKeptByArbiters

variable {x y z : BayRec}

theorem refl (x : BayRec) : BayKeptByArbiters x x := ⟨rfl, rfl, rfl, rfl, .inl rfl, .inr ⟨rfl, rfl⟩⟩

/-- What rewrites bindings alone tells the states without one. -/
theorem eq_of_mapBinding {f : Binding → Binding} {p q : Phase} (hq : q.binding? = none)
    (h : p.mapBinding f = q.mapBinding f) : p = q := by
  cases q with
  | active bd => exact absurd hq (by simp [Phase.binding?])
  | released bd => exact absurd hq (by simp [Phase.binding?])
  | _ => cases p <;> simp_all [Phase.mapBinding]

theorem trans (h : BayKeptByArbiters x y) (h' : BayKeptByArbiters y z) : BayKeptByArbiters x z := by
  obtain ⟨hf, ht, hst, hc, hs, hp⟩ := h
  obtain ⟨hf', ht', hst', hc', hs', hp'⟩ := h'
  refine ⟨hf'.trans hf, ht'.trans ht, hst'.trans hst, hc'.trans hc, ?_, ?_⟩
  · obtain h1 | h1 := hs'
    · rw [h1]
      exact hs
    · exact .inr h1
  · obtain ⟨hx, hy⟩ | ⟨hy, hl⟩ := hp
    · obtain ⟨hy', -⟩ | ⟨hz, -⟩ := hp'
      · exact absurd (hy.symm.trans hy') (by simp)
      · exact .inl ⟨hx, hy ▸ eq_of_mapBinding (by rw [hy]; rfl) hz⟩
    · obtain ⟨hy', hz⟩ | ⟨hz, hl'⟩ := hp'
      · exact .inl ⟨hy' ▸ (eq_of_mapBinding (by rw [hy']; rfl) hy.symm), hz⟩
      · exact .inr ⟨hz.trans hy, hl'.trans hl⟩

theorem of_schedule (h : SameButSchedule x y) : BayKeptByArbiters x y :=
  ⟨h.filter, h.thresholds, h.staged, h.counter, .inl h.slot, .inr ⟨by rw [h.phase], h.line⟩⟩

end BayKeptByArbiters

/-- What an arbiter of a lane leaves: its frame, outside the save table and writer too, and of each bay what a start keeps. -/
structure Starts (s t : State) : Prop where
  frame : ArbiterFrame s t
  saved : s.save = .none → t.table = s.table ∧ t.writer = s.writer
  bays : ∀ b, BayKeptByArbiters (s.bay b) (t.bay b)

namespace Starts

variable {s t u : State}

theorem refl (s : State) : Starts s s := ⟨rfl, fun _ => ⟨rfl, rfl⟩, fun _ => BayKeptByArbiters.refl _⟩

theorem save (h : Starts s t) : t.save = s.save := by rw [h.frame]

theorem trans (h : Starts s t) (h' : Starts t u) : Starts s u where
  frame := by
    have h1 := h.frame
    have h2 := h'.frame
    unfold ArbiterFrame at *
    rw [h2, h1]
  saved hs := by
    obtain ⟨ht, hw⟩ := h.saved hs
    obtain ⟨ht', hw'⟩ := h'.saved (h.save.trans hs)
    exact ⟨ht'.trans ht, hw'.trans hw⟩
  bays b := (h.bays b).trans (h'.bays b)

end Starts

section

variable (s : State)

theorem modLane_starts (l : Lane) (f : LaneRec → LaneRec) : Starts s (s.modLane l f) :=
  ⟨rfl, fun _ => ⟨rfl, rfl⟩, fun _ => BayKeptByArbiters.refl _⟩

theorem modBay_starts {b : Bay} {f : BayRec → BayRec} (h : BayKeptByArbiters (s.bay b) (f (s.bay b))) :
    Starts s (s.modBay b f) := by
  refine ⟨rfl, fun _ => ⟨rfl, rfl⟩, fun c => ?_⟩
  rw [bay_modBay]
  split
  · next hc => subst hc; exact h
  · exact BayKeptByArbiters.refl _

/-- A launch moves pending ink into flight, and outside the save writes no table (R104). -/
theorem launch_starts (b : Bay) (fin : Bool) : Starts s (s.launch b fin) := by
  refine ⟨?_, fun hs => ?_, fun c => ?_⟩
  · unfold ArbiterFrame State.launch
    rw [changeCommit_frame]
    rfl
  · rw [State.launch, changeCommit_none _ _ _ hs]
    exact ⟨rfl, rfl⟩
  · by_cases hc : c = b
    · subst hc
      have hkept : ∀ p : Phase, (p.mapBinding fun bd =>
          { bd with
            acct := { bd.acct with inflight := bd.acct.pending }
            commit := { bd.commit with state := .inFlight (bd.acct.committed + bd.acct.pending) fin } }).mapBinding
              Binding.unlaunched = p.mapBinding Binding.unlaunched := fun p => by cases p <;> rfl
      rw [State.launch, changeCommit_bay, State.modBinding, bay_modBay_same]
      exact ⟨rfl, rfl, rfl, rfl, .inl rfl, .inr ⟨hkept _, rfl⟩⟩
    · rw [(launch_only s b fin).others c hc]
      exact BayKeptByArbiters.refl _

theorem tellOwner_starts (b : Bay) (op : OpKind) : Starts s (s.tellOwner b op) := by
  cases op with
  | identify =>
    unfold State.tellOwner
    dsimp only
    split
    · next hseated =>
      refine ⟨rfl, fun _ => ⟨rfl, rfl⟩, fun c => ?_⟩
      by_cases hc : c = b
      · subst hc
        rw [setPhase_bay]
        exact ⟨rfl, rfl, rfl, rfl, .inl rfl, .inl ⟨hseated, rfl⟩⟩
      · rw [(setPhase_only s b _).others c hc]
        exact BayKeptByArbiters.refl _
    · exact Starts.refl s
  | commit => exact launch_starts s b false
  | reconcile => exact Starts.refl s
  | final => exact launch_starts s b true

theorem sendReadRecord_starts (l : Lane) (r : Running) (n : Nat) : Starts s (s.sendReadRecord l r n) :=
  ⟨rfl, fun _ => ⟨rfl, rfl⟩, fun _ => BayKeptByArbiters.refl _⟩

theorem sendChallenge_starts (l : Lane) (r : Running) (n : Nat) : Starts s (s.sendChallenge l r n) :=
  ⟨rfl, fun _ => ⟨rfl, rfl⟩, fun _ => BayKeptByArbiters.refl _⟩

theorem startOp_starts (l : Lane) (p : Position) (op : OpKind) : Starts s (s.startOp l p op) := by
  have htaken : Starts s (s.modBay (bayAt l p) fun x => { x with slot := none }) :=
    modBay_starts s ⟨rfl, rfl, rfl, rfl, .inr rfl, .inr ⟨rfl, rfl⟩⟩
  unfold State.startOp
  dsimp only
  split
  · exact htaken.trans ((modLane_starts _ _ _).trans ((tellOwner_starts _ _ _).trans (sendReadRecord_starts _ _ _ _)))
  · exact htaken.trans ((modLane_starts _ _ _).trans ((tellOwner_starts _ _ _).trans (sendChallenge_starts _ _ _ _)))

theorem arbitrate_starts (l : Lane) : Starts s (s.arbitrate l) := by
  unfold State.arbitrate
  split
  · exact Starts.refl s
  · split
    · exact startOp_starts s _ _ _
    · exact Starts.refl s

theorem arbitrateAll_starts : Starts s s.arbitrateAll := by
  have hfold : ∀ (ls : List Lane) (t : State), Starts t (ls.foldl State.arbitrate t) := by
    intro ls
    induction ls with
    | nil => exact Starts.refl
    | cons l ls ih => exact fun t => (arbitrate_starts t l).trans (ih _)
  exact hfold allLanes s

theorem settleConverter_arbiterFrame : ArbiterFrame s s.settleConverter := by
  unfold ArbiterFrame
  rw [settleConverter_frame]

theorem settleConverter_table : s.settleConverter.table = s.table ∧ s.settleConverter.writer = s.writer ∧
    s.settleConverter.nonceDraws = s.nonceDraws := by
  rw [settleConverter_frame]
  exact ⟨rfl, rfl, rfl⟩

theorem settleConverter_starts : Starts s s.settleConverter :=
  ⟨settleConverter_arbiterFrame s, fun _ => ⟨(settleConverter_table s).1, (settleConverter_table s).2.1⟩,
    fun b => BayKeptByArbiters.of_schedule (settleConverter_scheduled s b)⟩

theorem runArbiters_starts : Starts s s.runArbiters := (arbitrateAll_starts s).trans (settleConverter_starts _)

end

/-- Settles O49. -/
theorem arbitersKeep : Obligations.ArbitersKeep := fun s =>
  ⟨(runArbiters_starts s).frame, settleConverter_arbiterFrame s, (runArbiters_starts s).saved, (settleConverter_table s).1,
    (settleConverter_table s).2.1, (settleConverter_table s).2.2,
    fun b => ⟨(runArbiters_starts s).bays b, settleConverter_scheduled s b⟩⟩

/-! ### The choice of a lane's arbiter (R31 to R33) -/

section

variable {s : State} {l : Lane} {p : Position} {op : OpKind}

theorem candidate_iff : s.candidate l op p = true ↔ Candidate s l p op := by
  unfold State.candidate Candidate
  cases op <;> simp [OpKind.heldBack]

/-- The search order lists the positions by rank (R32). -/
theorem searchOrder_split : ∀ last p : Position, ∃ n, (searchOrder last)[n]? = some p ∧
    ∀ q ∈ (searchOrder last).take n, searchRank last q < searchRank last p := by
  intro last p
  refine ⟨searchRank last p, ?_⟩
  revert last p
  decide

/-- The first position of a search is the one of least rank (R32). -/
theorem find_searchOrder (last p : Position) (f : Position → Bool) (hp : f p = true)
    (h : ∀ q, f q = true → searchRank last p ≤ searchRank last q) : (searchOrder last).find? f = some p := by
  obtain ⟨n, hn, hbefore⟩ := searchOrder_split last p
  obtain ⟨hlen, hget⟩ := List.getElem?_eq_some_iff.1 hn
  refine List.find?_eq_some_iff_getElem.2 ⟨hp, n, hlen, hget, fun j hj => ?_⟩
  have hlt := hbefore _ (List.mem_take_iff_getElem.2 ⟨j, by omega, rfl⟩)
  rw [Bool.not_eq_true', ← Bool.not_eq_true]
  exact fun hf => absurd (h _ hf) (by omega)

end

end Sys2Proof.Machine

/-! The choice of a lane's arbiter and the start of an operation: O48. -/

namespace Sys2Proof.Machine

section

variable {s : State} {l : Lane} {p : Position} {op : OpKind}

/-! ### The choice (R31 to R33) -/

theorem search_none (h : ∀ q, ¬Candidate s l q op) : (searchOrder (s.lane l).lastServed).find? (s.candidate l op) = none :=
  List.find?_eq_none.2 fun q _ hq => h q (candidate_iff.1 hq)

/-- The arbiter chooses of the lowest class number, and there the first in the search order (R31, R32). -/
theorem chosen_eq (hc : Candidate s l p op)
    (hfirst : ∀ p' op', Candidate s l p' op' → op.classNumber < op'.classNumber ∨
      op = op' ∧ searchRank (s.lane l).lastServed p ≤ searchRank (s.lane l).lastServed p') :
    s.chosen l = some (p, op) := by
  have hbefore : ∀ op', op'.classNumber < op.classNumber →
      (searchOrder (s.lane l).lastServed).find? (s.candidate l op') = none := fun op' hlt =>
    search_none fun q hq => by
      obtain h | ⟨rfl, -⟩ := hfirst q op' hq <;> omega
  have hfound : (searchOrder (s.lane l).lastServed).find? (s.candidate l op) = some p :=
    find_searchOrder _ _ _ (candidate_iff.2 hc) fun q hq => by
      obtain h | ⟨-, h⟩ := hfirst q op (candidate_iff.1 hq)
      · omega
      · exact h
  unfold State.chosen classOrder
  cases op with
  | final => simp [hfound]
  | reconcile => simp [hfound, hbefore .final (by decide)]
  | commit => simp [hfound, hbefore .final (by decide), hbefore .reconcile (by decide)]
  | identify => simp [hfound, hbefore .final (by decide), hbefore .reconcile (by decide), hbefore .commit (by decide)]

theorem chosen_none (h : ∀ p op, ¬Candidate s l p op) : s.chosen l = none := by
  unfold State.chosen classOrder
  simp [search_none fun q => h q _]

theorem arbitrate_busy (h : (s.lane l).running ≠ none) : s.arbitrate l = s := by
  unfold State.arbitrate
  split
  · rfl
  · next hidle => exact absurd hidle h

theorem arbitrate_starts_chosen (hidle : (s.lane l).running = none) (hc : s.chosen l = some (p, op)) :
    s.arbitrate l = s.startOp l p op := by
  unfold State.arbitrate
  rw [hidle, hc]

theorem arbitrate_without_candidate (h : ∀ p op, ¬Candidate s l p op) : s.arbitrate l = s := by
  unfold State.arbitrate
  rw [chosen_none h]
  split <;> rfl

end

/-! ### The start of an operation (R34) -/

section

variable (s : State) (l : Lane) (p : Position) (op : OpKind)

/-- The lane as it starts an operation, less the command it sends (R34 steps 1 and 2). -/
def Running.started (p : Position) (op : OpKind) : Running :=
  { position := p, op := op, step := if op == .identify then .readRecord else .challenge, attempt := 1, abandoned := false
    opNonce := none, timer := none, nonce := none, record := none, badRecord := false, command := [] }

/-- The lane is BUSY with the request, which has left its slot (R34 steps 1 and 2). -/
def State.busied (s : State) (l : Lane) (p : Position) (op : OpKind) : State :=
  (s.modBay (bayAt l p) fun x => { x with slot := none }).modLane l fun x =>
    { x with running := some (Running.started p op), lastServed := p }

theorem startOp_identify : s.startOp l p .identify =
    ((s.busied l p .identify).tellOwner (bayAt l p) .identify).sendReadRecord l (Running.started p .identify) 1 := rfl

theorem startOp_challenge (h : op ≠ .identify) : s.startOp l p op =
    ((s.busied l p op).tellOwner (bayAt l p) op).sendChallenge l (Running.started p op) 1 := by
  cases op with
  | identify => exact absurd rfl h
  | _ => rfl

theorem tellOwner_only (b : Bay) : ActsOnly b s (s.tellOwner b op) := by
  cases op with
  | identify =>
    unfold State.tellOwner
    dsimp only
    split
    · exact setPhase_only s b _
    · exact ActsOnly.refl s
  | commit => exact launch_only s b false
  | reconcile => exact ActsOnly.refl s
  | final => exact launch_only s b true

theorem tellOwner_latches (b : Bay) : (s.tellOwner b op).latches = s.latches := by
  cases op with
  | identify =>
    unfold State.tellOwner
    dsimp only
    split <;> rfl
  | commit => exact changeCommit_latches s b _
  | reconcile => rfl
  | final => exact changeCommit_latches s b _

theorem launch_active {b : Bay} {bd : Binding} (fin : Bool) (h : (s.bay b).phase = .active bd) :
    (s.launch b fin).bay b = { s.bay b with
      phase := .active
        { bd with
          acct := { bd.acct with inflight := bd.acct.pending }
          commit := { bd.commit with state := .inFlight (bd.acct.committed + bd.acct.pending) fin } } } :=
  changeCommit_active h _

theorem launch_slot (b : Bay) (fin : Bool) : ((s.launch b fin).bay b).slot = (s.bay b).slot := by
  rw [State.launch, changeCommit_bay, State.modBinding, bay_modBay_same]

theorem tellOwner_slot (b : Bay) : ((s.tellOwner b op).bay b).slot = (s.bay b).slot := by
  cases op with
  | identify =>
    unfold State.tellOwner
    dsimp only
    split
    · rw [setPhase_bay]
    · rfl
  | commit => exact launch_slot s b false
  | reconcile => rfl
  | final => exact launch_slot s b true

theorem busied_others {m : Lane} (h : m ≠ l) : (s.busied l p op).lane m = s.lane m := lane_modLane_other _ h _

theorem busied_lane : (s.busied l p op).lane l = { s.lane l with running := some (Running.started p op), lastServed := p } :=
  lane_modLane_same _ l _

theorem busied_bay : (s.busied l p op).bay (bayAt l p) = { s.bay (bayAt l p) with slot := none } :=
  bay_modBay_same s (bayAt l p) fun x => { x with slot := none }

theorem busied_bay_other {c : Bay} (h : c ≠ bayAt l p) : (s.busied l p op).bay c = s.bay c :=
  bay_modBay_other s h fun x => { x with slot := none }

theorem told_lane (m : Lane) : ((s.busied l p op).tellOwner (bayAt l p) op).lane m = (s.busied l p op).lane m :=
  (tellOwner_only _ op (bayAt l p)).lane m

/-- The command that an operation starts with, on the lane (R34 steps 2 and 4). -/
theorem startOp_lane : (∃ r : Running, ((s.startOp l p op).lane l).running = some r ∧ r.position = p ∧ r.op = op ∧
      r.attempt = 1 ∧ r.abandoned = false ∧ r.timer = none ∧ r.opNonce = none ∧
      (op = .identify → r.step = .readRecord ∧ r.nonce = none ∧ (s.startOp l p op).nonceDraws = s.nonceDraws) ∧
      (op ≠ .identify → r.step = .challenge ∧ r.nonce = some (Config.nonce s.nonceDraws) ∧
        (s.startOp l p op).nonceDraws = s.nonceDraws + 1)) ∧
    ((s.startOp l p op).lane l).lastServed = p := by
  have hdraws : ((s.busied l p op).tellOwner (bayAt l p) op).nonceDraws = s.nonceDraws :=
    (tellOwner_only _ op (bayAt l p)).draws
  have hlane := (told_lane s l p op l).trans (busied_lane s l p op)
  by_cases h : op = .identify
  · subst h
    rw [startOp_identify]
    generalize (s.busied l p .identify).tellOwner (bayAt l p) .identify = t at hdraws hlane ⊢
    rw [State.sendReadRecord, State.onLane, lane_modLane_same, hlane]
    exact ⟨⟨_, rfl, rfl, rfl, rfl, rfl, rfl, rfl, fun _ => ⟨rfl, rfl, hdraws⟩, fun hne => absurd rfl hne⟩, rfl⟩
  · rw [startOp_challenge s l p op h]
    generalize (s.busied l p op).tellOwner (bayAt l p) op = t at hdraws hlane ⊢
    have hsent : (t.sendChallenge l (Running.started p op) 1).lane l = _ :=
      lane_modLane_same { t with nonceDraws := t.nonceDraws + 1 } l _
    rw [hsent, ← hdraws]
    exact ⟨⟨_, rfl, rfl, rfl, rfl, rfl, rfl, rfl, fun hi => absurd hi h, fun _ => ⟨rfl, rfl, rfl⟩⟩,
      congrArg LaneRec.lastServed hlane⟩

/-- Beside its own lane a start leaves what the owner's step leaves (R34). -/
theorem startOp_rest : (s.startOp l p op).bays = ((s.busied l p op).tellOwner (bayAt l p) op).bays ∧
    (∀ m, m ≠ l → (s.startOp l p op).lane m = s.lane m) ∧ (s.startOp l p op).replies = s.replies ∧
    (s.startOp l p op).latches = s.latches := by
  have hlatches : ((s.busied l p op).tellOwner (bayAt l p) op).latches = s.latches := tellOwner_latches _ op _
  have hreplies : ((s.busied l p op).tellOwner (bayAt l p) op).replies = s.replies :=
    (tellOwner_only _ op (bayAt l p)).replies
  have hlane : ∀ m, m ≠ l → ((s.busied l p op).tellOwner (bayAt l p) op).lane m = s.lane m := fun m hm =>
    (told_lane s l p op m).trans (busied_others s l p op hm)
  by_cases h : op = .identify
  · subst h
    rw [startOp_identify]
    exact ⟨rfl, fun m hm => (lane_modLane_other _ hm _).trans (hlane m hm), hreplies, hlatches⟩
  · rw [startOp_challenge s l p op h]
    exact ⟨rfl, fun m hm => (lane_modLane_other _ hm _).trans (hlane m hm), hreplies, hlatches⟩

/-- The bay as its owner leaves it (R34 step 3). -/
theorem startOp_bay (c : Bay) : (s.startOp l p op).bay c = ((s.busied l p op).tellOwner (bayAt l p) op).bay c := by
  rw [State.bay, (startOp_rest s l p op).1]
  rfl

theorem startOp_others {c : Bay} (hc : c ≠ bayAt l p) : (s.startOp l p op).bay c = s.bay c := by
  rw [startOp_bay, (tellOwner_only _ op (bayAt l p)).others c hc, busied_bay_other s l p op hc]

theorem startOp_slot : ((s.startOp l p op).bay (bayAt l p)).slot = none := by
  rw [startOp_bay, tellOwner_slot, busied_bay]

theorem startOp_identify_phase : ((s.startOp l p .identify).bay (bayAt l p)).phase =
    if (s.bay (bayAt l p)).phase = .seated then .identifying else (s.bay (bayAt l p)).phase := by
  have hphase : ((s.busied l p .identify).bay (bayAt l p)).phase = (s.bay (bayAt l p)).phase := by rw [busied_bay]
  rw [startOp_bay, ← hphase]
  unfold State.tellOwner
  dsimp only
  split
  · rw [setPhase_bay]
  · rfl

theorem startOp_launch_phase {bd : Binding} (hop : op = .commit ∨ op = .final)
    (h : (s.bay (bayAt l p)).phase = .active bd) : ((s.startOp l p op).bay (bayAt l p)).phase = .active
      { bd with
        acct := { bd.acct with inflight := bd.acct.pending }
        commit := { bd.commit with state := .inFlight (bd.acct.committed + bd.acct.pending) (op == .final) } } := by
  have hphase : ((s.busied l p op).bay (bayAt l p)).phase = .active bd := by rw [busied_bay]; exact h
  rw [startOp_bay]
  obtain rfl | rfl := hop
  · exact congrArg BayRec.phase (launch_active _ false hphase)
  · exact congrArg BayRec.phase (launch_active _ true hphase)

theorem startOp_reconcile_phase : ((s.startOp l p .reconcile).bay (bayAt l p)).phase = (s.bay (bayAt l p)).phase := by
  rw [startOp_bay]
  show ((s.busied l p .reconcile).bay (bayAt l p)).phase = _
  rw [busied_bay]

end

/-- Settles O48: the arbiter chooses by `chosen_eq`, and a start acts by the laws of `startOp`. -/
theorem laneArbiterOrder : Obligations.LaneArbiterOrder := by
  intro s l
  refine ⟨fun h => ?_, fun p op hidle hc hfirst => ?_⟩
  · obtain hbusy | hnone := h
    · exact arbitrate_busy hbusy
    · exact arbitrate_without_candidate hnone
  · rw [arbitrate_starts_chosen hidle (chosen_eq hc hfirst)]
    obtain ⟨hrunning, hserved⟩ := startOp_lane s l p op
    obtain ⟨-, hlanes, hreplies, hlatches⟩ := startOp_rest s l p op
    exact ⟨hrunning, hserved, startOp_slot s l p op, fun hop => hop ▸ startOp_identify_phase s l p,
      fun bd hop hact => startOp_launch_phase s l p op hop hact, fun hop => hop ▸ startOp_reconcile_phase s l p,
      fun c => startOp_others s l p op, hlanes, hreplies, hlatches, (startOp_starts s l p op).saved⟩

end Sys2Proof.Machine

/-! Timers and the choice of the converter arbiter: O52. -/

namespace Sys2Proof.Machine

variable {s : State}

theorem modBay_congr {b : Bay} {f g : BayRec → BayRec} (h : f (s.bay b) = g (s.bay b)) : s.modBay b f = s.modBay b g := by
  rw [State.modBay, h]
  rfl

/-! ### The first due channel (R138) -/

/-- The lanes are searched in ascending order (R138). -/
theorem allLanes_split : ∀ l : Lane, allLanes[l.val]? = some l ∧ ∀ m ∈ allLanes.take l.val, m < l := by decide

theorem firstDueLane_eq {l : Lane} (hdue : (s.lane l).supplyDue ≠ none) (hbefore : ∀ m, m < l → (s.lane m).supplyDue = none) :
    s.firstDueLane = some l := by
  obtain ⟨hl, hlower⟩ := allLanes_split l
  obtain ⟨hlen, hget⟩ := List.getElem?_eq_some_iff.1 hl
  refine List.find?_eq_some_iff_getElem.2 ⟨Option.isSome_iff_ne_none.2 hdue, l.val, hlen, hget, fun j hj => ?_⟩
  rw [hbefore _ (hlower _ (List.mem_take_iff_getElem.2 ⟨j, by omega, rfl⟩))]
  rfl

theorem firstDueLane_none (h : ∀ l, (s.lane l).supplyDue = none) : s.firstDueLane = none :=
  List.find?_eq_none.2 fun l _ hl => by rw [h l] at hl; exact absurd hl (by decide)

/-- A due bay that no later one precedes stays the best found. -/
theorem foldl_earlier_stays (due : Bay → Option Nat) (b : Bay) (t : Nat) (cs : List Bay)
    (h : ∀ c ∈ cs, ∀ u, due c = some u → t ≤ u) :
    cs.foldl (fun best c => earlier best c (due c)) (some (b, t)) = some (b, t) := by
  induction cs with
  | nil => rfl
  | cons c cs ih =>
    have hstep : earlier (some (b, t)) c (due c) = some (b, t) := by
      unfold earlier
      cases hc : due c with
      | none => rfl
      | some u => exact if_neg (by have := h c (by simp) u hc; omega)
    rw [List.foldl_cons, hstep]
    exact ih fun d hd => h d (List.mem_cons_of_mem c hd)

/-- In an ascending list the search ends with the bay of the earliest due time, the lowest among equals (R138). -/
theorem foldl_earlier (due : Bay → Option Nat) {b : Bay} {t : Nat} (hdue : due b = some t) (cs : List Bay)
    (hsorted : cs.Pairwise (· < ·)) (hmem : b ∈ cs) (hfirst : ∀ c ∈ cs, ∀ u, due c = some u → t < u ∨ t = u ∧ b ≤ c) :
    ∀ best : Option (Bay × Nat), (∀ c u, best = some (c, u) → t < u) →
      cs.foldl (fun best c => earlier best c (due c)) best = some (b, t) := by
  induction cs with
  | nil => exact absurd hmem (List.not_mem_nil)
  | cons c cs ih =>
    intro best hbest
    obtain ⟨hbelow, hsorted⟩ := List.pairwise_cons.1 hsorted
    rw [List.foldl_cons]
    by_cases hc : c = b
    · subst hc
      have hstep : earlier best c (due c) = some (c, t) := by
        unfold earlier
        rw [hdue]
        cases best with
        | none => rfl
        | some x => exact if_pos (hbest x.1 x.2 rfl)
      rw [hstep]
      refine foldl_earlier_stays due c t cs fun d hd u hu => ?_
      obtain h | ⟨h, -⟩ := hfirst d (List.mem_cons_of_mem c hd) u hu <;> omega
    · have hmem : b ∈ cs := (List.mem_cons.1 hmem).resolve_left (Ne.symm hc)
      refine ih hsorted hmem (fun d hd => hfirst d (List.mem_cons_of_mem c hd)) _ fun d u hd => ?_
      unfold earlier at hd
      have hlater : ∀ u, due c = some u → t < u := fun u hu => by
        obtain h | ⟨-, h⟩ := hfirst c (by simp) u hu
        · exact h
        · exact absurd (hbelow b hmem) (not_lt.2 h)
      cases hcd : due c with
      | none =>
        rw [hcd] at hd
        exact hbest d u hd
      | some v =>
        have hv := hlater v hcd
        rw [hcd] at hd
        cases best with
        | none =>
          injection hd with hd
          injection hd with _ huv
          omega
        | some x =>
          dsimp only at hd
          split at hd
          · injection hd with hd
            injection hd with _ huv
            omega
          · exact hbest d u hd

theorem firstDueBay_eq {b : Bay} {t : Nat} (hdue : (s.bay b).due = some t)
    (hfirst : ∀ c u, (s.bay c).due = some u → t < u ∨ t = u ∧ b ≤ c) : s.firstDueBay = some b := by
  unfold State.firstDueBay
  rw [foldl_earlier (fun b => (s.bay b).due) hdue allBays (by decide) (mem_allBays b) (fun c _ => hfirst c) none
    (fun _ _ h => absurd h (by simp))]
  rfl

theorem firstDueBay_none (h : ∀ b, (s.bay b).due = none) : s.firstDueBay = none := by
  have hfold : ∀ cs : List Bay, cs.foldl (fun best b => earlier best b (s.bay b).due) none = none := by
    intro cs
    induction cs with
    | nil => rfl
    | cons c cs ih => rw [List.foldl_cons, h c]; exact ih
  unfold State.firstDueBay
  rw [hfold]
  rfl

/-! ### The converter arbiter (R136, R138) -/

theorem converterArbiter_stopped (h : s.device ≠ .running ∨ s.converter ≠ none) : s.converterArbiter = s := by
  unfold State.converterArbiter
  refine if_neg fun hc => ?_
  simp only [Bool.and_eq_true, beq_iff_eq, Option.isNone_iff_eq_none] at hc
  obtain hd | hconv := h
  · exact hd hc.1
  · exact hconv hc.2

theorem converterArbiter_lane {l : Lane} (hd : s.device = .running) (hc : s.converter = none)
    (h : s.firstDueLane = some l) : s.converterArbiter = s.takeLane l := by
  unfold State.converterArbiter
  rw [if_pos (by simp [hd, hc]), h]

theorem converterArbiter_bay {b : Bay} (hd : s.device = .running) (hc : s.converter = none)
    (hl : s.firstDueLane = none) (h : s.firstDueBay = some b) : s.converterArbiter = s.takeBay b := by
  unfold State.converterArbiter
  rw [if_pos (by simp [hd, hc]), hl, h]

theorem converterArbiter_none (hl : s.firstDueLane = none) (h : s.firstDueBay = none) : s.converterArbiter = s := by
  unfold State.converterArbiter
  rw [hl, h]
  split <;> rfl

theorem takeLane_lane (s : State) (l : Lane) :
    (s.takeLane l).lane l = { s.lane l with supplyTimer := none, supplyDue := none } :=
  lane_modLane_same s l fun r => { r with supplyTimer := none, supplyDue := none }

/-! ### The timers (R132, R140, R141) -/

theorem expire_of_armed {ms : Nat} (h : 2000 ≤ ms) : (Line.armed ms).expire = .inhibit := if_pos h

theorem expire_before {ms : Nat} (h : ms < 2000) : (Line.armed ms).expire = .armed ms := if_neg (Nat.not_le.2 h)

theorem expire_unarmed {ln : Line} (h : ln.code ≠ 2) : ln.expire = ln := by
  cases ln with
  | armed ms => exact absurd rfl h
  | inhibit => rfl
  | allow => rfl

/-- An expiry that finds the line as it leaves it changes nothing (R132). -/
theorem holdLimitExpiry_idle {b : Bay} (h : (s.bay b).line.expire = (s.bay b).line) :
    exec (.holdLimitExpiry b) s = .next s :=
  congrArg Host.Outcome.next (modBay_of_same s b _ (by rw [h]))

theorem holdLimitExpiry_inhibits {b : Bay} (h : (s.bay b).line.expire = .inhibit) :
    exec (.holdLimitExpiry b) s = .next (s.modBay b fun x => { x with line := .inhibit }) :=
  congrArg Host.Outcome.next (modBay_congr (by rw [h]))

theorem surveyTimerExpiry_none {b : Bay} (h : (s.bay b).surveyTimer = none) : exec (.surveyTimerExpiry b) s = .next s := by
  show execSurveyTimerExpiry b s = _
  unfold execSurveyTimerExpiry
  rw [h]

theorem surveyTimerExpiry_some {b : Bay} {ms : Nat} (h : (s.bay b).surveyTimer = some ms) :
    exec (.surveyTimerExpiry b) s = .next (if (s.bayCfg b).calib.period ≤ ms then
      (s.modBay b fun x => { x with wanted := true }).settleConverter else s) := by
  show execSurveyTimerExpiry b s = _
  unfold execSurveyTimerExpiry
  rw [h]

theorem supplyTimerExpiry_none {l : Lane} (h : (s.lane l).supplyTimer = none) : exec (.supplyTimerExpiry l) s = .next s := by
  show execSupplyTimerExpiry l s = _
  unfold execSupplyTimerExpiry
  rw [h]

theorem supplyTimerExpiry_some {l : Lane} {ms : Nat} (h : (s.lane l).supplyTimer = some ms) :
    exec (.supplyTimerExpiry l) s = .next (if s.interval l ≤ ms then s.settleConverter else s) := by
  show execSupplyTimerExpiry l s = _
  unfold execSupplyTimerExpiry
  rw [h]

/-- A lane channel whose timer has reached its interval is due (R141). -/
theorem refreshDue_due {l : Lane} {ms : Nat} (h : (s.lane l).supplyTimer = some ms) (hms : s.interval l ≤ ms) :
    (s.refreshDue.lane l).supplyDue ≠ none := by
  rw [refreshDue_lane]
  unfold State.refreshLane
  rw [h]
  dsimp only
  rw [if_pos hms]
  cases (s.lane l).supplyDue <;> simp

/-- Settles O52. -/
theorem timerExpiriesAct : Obligations.TimerExpiriesAct := by
  refine ⟨fun s b => ⟨fun ms h hms => ?_, fun ms h hms => ?_, fun h => ?_, fun ms h hms => ?_, fun ms h hms => ?_,
      surveyTimerExpiry_none⟩,
    fun s l => ⟨supplyTimerExpiry_none, fun ms h => ⟨fun hms => ?_, fun hms => ?_⟩⟩,
    fun s => ⟨converterArbiter_stopped, fun hd hc => ⟨fun l hl hbefore => ?_, fun hl b t hb hfirst => ?_, fun hl hb => ?_⟩⟩⟩
  · exact holdLimitExpiry_inhibits (by rw [h]; exact expire_of_armed hms)
  · exact holdLimitExpiry_idle (by rw [h]; exact expire_before hms)
  · exact holdLimitExpiry_idle (expire_unarmed h)
  · rw [surveyTimerExpiry_some h, if_pos hms]
  · rw [surveyTimerExpiry_some h, if_neg (Nat.not_le.2 hms)]
  · have hinterval := interval_le.2 hms
    rw [supplyTimerExpiry_some h, if_pos hinterval]
    exact ⟨rfl, refreshDue_due h hinterval⟩
  · rw [supplyTimerExpiry_some h, if_neg]
    rw [interval_le]
    rintro (h1 | ⟨h1, hw⟩)
    · obtain h2 | ⟨h2, -⟩ := hms <;> omega
    · obtain h2 | ⟨-, hnw⟩ := hms
      · omega
      · exact hnw hw
  · rw [converterArbiter_lane hd hc (firstDueLane_eq hl hbefore)]
    refine ⟨rfl, ?_⟩
    rw [takeLane_lane]
    exact ⟨rfl, rfl⟩
  · rw [converterArbiter_bay hd hc (firstDueLane_none hl) (firstDueBay_eq hb hfirst)]
    exact ⟨rfl, takeBay_bay s b⟩
  · exact converterArbiter_none (firstDueLane_none hl) (firstDueBay_none hb)

end Sys2Proof.Machine

/-! The timing of a lane's transactions: O41. -/

namespace Sys2Proof.Machine

variable {s : State} {l : Lane} {x : Running}

/-! ### One equation per case of the three lane events (R26, R39) -/

theorem commandEnd_idle (h : (s.lane l).running = none) : s.commandEnd l = s := by
  unfold State.commandEnd
  rw [h]

theorem commandEnd_sending (h : (s.lane l).running = some x) (ht : x.timer = none) :
    s.commandEnd l = s.modLane l fun y => { y with running := some { x with timer := some 0 } } := by
  unfold State.commandEnd
  rw [h]
  dsimp only
  rw [ht]

theorem replyExpiry_idle (h : (s.lane l).running = none) : s.replyExpiry l = s := by
  unfold State.replyExpiry
  rw [h]

theorem replyExpiry_sending (h : (s.lane l).running = some x) (ht : x.timer = none) : s.replyExpiry l = s := by
  unfold State.replyExpiry
  rw [h]
  dsimp only
  rw [ht]

theorem replyExpiry_early {ms : Nat} (h : (s.lane l).running = some x) (ht : x.timer = some ms) (hms : ms < 25) :
    s.replyExpiry l = s := by
  unfold State.replyExpiry
  rw [h]
  dsimp only
  rw [ht]
  exact if_neg (Nat.not_le.2 hms)

theorem replyExpiry_late {ms : Nat} (h : (s.lane l).running = some x) (ht : x.timer = some ms) (hms : 25 ≤ ms) :
    s.replyExpiry l = if x.abandoned then s.freeLane l else s.noReply l { x with timer := none } := by
  unfold State.replyExpiry
  rw [h]
  dsimp only
  rw [ht]
  exact if_pos hms

theorem tagReply_idle (h : (s.lane l).running = none) (bytes : List Byte) : s.tagReply l bytes = s := by
  unfold State.tagReply
  rw [h]

theorem tagReply_sending (h : (s.lane l).running = some x) (ht : x.timer = none) (bytes : List Byte) :
    s.tagReply l bytes = s := by
  unfold State.tagReply
  rw [h]
  dsimp only
  rw [ht]

theorem tagReply_malformed {bytes : List Byte} (h : (s.lane l).running = some x)
    (hf : replyFrameOk x.step x.position bytes = false) : s.tagReply l bytes = s := by
  unfold State.tagReply
  rw [h]
  dsimp only
  rw [hf]
  split <;> rfl

theorem tagReply_wellFormed {bytes : List Byte} (h : (s.lane l).running = some x) (ht : x.timer ≠ none)
    (hf : replyFrameOk x.step x.position bytes = true) :
    s.tagReply l bytes = if x.abandoned then s.freeLane l else s.judgeReply l { x with timer := none } bytes := by
  obtain ⟨ms, hms⟩ := Option.ne_none_iff_exists'.1 ht
  unfold State.tagReply
  rw [h]
  dsimp only
  rw [hms, hf]
  rfl

/-! ### The frame of a reply (R26, R183) -/

theorem toBytes_one (n : Nat) : toBytes 1 n = [BitVec.ofNat 8 n] := by
  simp [toBytes]

/-- The first byte of a frame is a position when its number is. -/
theorem take_one_position {bytes : List Byte} {p : Position} (hlen : bytes ≠ []) :
    bytes.take 1 = toBytes 1 p.val ↔ field bytes 0 1 = p.val := by
  obtain ⟨b, tail, rfl⟩ := List.exists_cons_of_ne_nil hlen
  have hp : p.val < 4 := p.isLt
  have hfield : field (b :: tail) 0 1 = b.toNat := by simp [field, ofBytes]
  rw [hfield, toBytes_one]
  simp only [List.take_succ_cons, List.take_zero, List.cons.injEq, and_true]
  constructor
  · rintro rfl
    exact Nat.mod_eq_of_lt (by omega)
  · intro h
    apply BitVec.eq_of_toNat_eq
    rw [h]
    exact (Nat.mod_eq_of_lt (by omega)).symm

theorem replyLength_eq (step : TagStep) : replyLength step = if step = .readRecord then 22 else 21 := by
  cases step <;> rfl

theorem replyFrameOk_iff {step : TagStep} {p : Position} {bytes : List Byte} :
    replyFrameOk step p bytes = true ↔ bytes.length = (if step = .readRecord then 22 else 21) ∧
      bytes.take 1 = toBytes 1 p.val ∧ bytes.getLast? = some (crc8 bytes.dropLast) := by
  unfold replyFrameOk
  simp only [Bool.and_eq_true, beq_iff_eq, replyLength_eq, and_assoc]
  refine and_congr_right fun hlen => and_congr_left fun _ => (take_one_position fun h => ?_).symm
  rw [h] at hlen
  split at hlen <;> exact absurd hlen (by decide)

/-! ### The three events -/

theorem exec_laneCommandEnd (s : State) (l : Lane) : exec (.laneCommandEnd l) s = .next (s.commandEnd l).settleConverter := rfl

theorem exec_replyTimerExpiry (s : State) (l : Lane) :
    exec (.replyTimerExpiry l) s = .next (s.replyExpiry l).settleConverter := rfl

theorem exec_tagReply (s : State) (l : Lane) (bytes : List Byte) :
    exec (.tagReply l bytes) s = .next (s.tagReply l bytes).settleConverter := rfl

/-- An attempt that ends with no reply sends READ_RECORD again (R28). -/
theorem noReply_readRecord (hstep : x.step = .readRecord) (ha : x.attempt < 3) (s : State) (l : Lane) :
    s.noReply l { x with timer := none } = s.modLane l fun y =>
      { y with
        running := some
          { x with
            attempt := x.attempt + 1, timer := none, nonce := none
            command := withCheck (toBytes 1 x.position.val ++ [0x01]) } } := by
  obtain ⟨position, op, step, attempt, abandoned, opNonce, timer, nonce, record, badRecord, command⟩ := x
  obtain rfl : step = .readRecord := hstep
  exact if_pos (show attempt < maxAttempts from ha)

/-- An attempt that ends with no reply sends CHALLENGE again with a fresh nonce (R29). -/
theorem noReply_challenge (hstep : x.step = .challenge) (ha : x.attempt < 3) (s : State) (l : Lane) :
    s.noReply l { x with timer := none } = ({ s with nonceDraws := s.nonceDraws + 1 } : State).modLane l fun y =>
      { y with
        running := some
          { x with
            attempt := x.attempt + 1, timer := none, nonce := some (Config.nonce s.nonceDraws)
            command :=
              withCheck (toBytes 1 x.position.val ++ [0x02] ++ toBytes 16 (Config.nonce s.nonceDraws).toNat) } } := by
  obtain ⟨position, op, step, attempt, abandoned, opNonce, timer, nonce, record, badRecord, command⟩ := x
  obtain rfl : step = .challenge := hstep
  exact if_pos (show attempt < maxAttempts from ha)

/-- Settles O41. -/
theorem laneTransactionsTimed : Obligations.LaneTransactionsTimed := by
  intro s l
  refine ⟨fun h bytes => ?_, fun x bytes h ht => ?_, fun x ms h ht => ⟨fun hms => ?_, fun bytes hf => ?_, fun hms ha => ?_,
    fun bytes ha hf => ?_⟩, fun x ms h ht hms ha hlt => ⟨fun hstep => ?_, fun hstep => ?_⟩⟩
  · rw [exec_laneCommandEnd, exec_replyTimerExpiry, exec_tagReply, commandEnd_idle h, replyExpiry_idle h, tagReply_idle h]
    exact ⟨rfl, rfl, rfl⟩
  · rw [exec_laneCommandEnd, exec_replyTimerExpiry, exec_tagReply, commandEnd_sending h ht, replyExpiry_sending h ht,
      tagReply_sending h ht]
    exact ⟨rfl, rfl, rfl⟩
  · rw [exec_replyTimerExpiry, replyExpiry_early h ht hms]
  · rw [exec_tagReply, tagReply_malformed h]
    rw [← Bool.not_eq_true]
    exact fun hok => hf (replyFrameOk_iff.1 hok)
  · rw [exec_replyTimerExpiry, replyExpiry_late h ht hms, if_pos ha]
    rfl
  · rw [exec_tagReply, tagReply_wellFormed h (by simp [ht]) hf, if_pos ha]
    rfl
  · rw [exec_replyTimerExpiry, replyExpiry_late h ht hms, if_neg (by simp [ha]), noReply_readRecord hstep hlt]
  · rw [exec_replyTimerExpiry, replyExpiry_late h ht hms, if_neg (by simp [ha]), noReply_challenge hstep hlt]

end Sys2Proof.Machine

/-! The policy requests: O29 and O30. -/

namespace Sys2Proof.Machine

/-! ### A change of the policy (R126, R186, R190) -/

section

variable (s : State) (p : Policy)

/-- The state whose writer a change of the policy triggers. -/
def State.withPolicy (s : State) (p : Policy) : State := State.markDirty { s with policy := p } .policy

theorem withPolicy_frame : (s.withPolicy p).trigger = { s with policy := p, writer := (s.withPolicy p).trigger.writer } := by
  have hdirty : (s.withPolicy p).writer.dirty.isEmpty = false := markDirty_dirty _ _
  rw [trigger_frame hdirty]
  rfl

theorem policyChanged_writer : (s.policyChanged p).writer = (s.withPolicy p).trigger.writer := rfl

theorem policyChanged_frame :
    s.policyChanged p = { s with policy := p, writer := (s.policyChanged p).writer, bays := (s.policyChanged p).bays } := by
  have h := withPolicy_frame s p
  show (s.withPolicy p).trigger.evalLines = { s with
    policy := p, writer := (s.withPolicy p).trigger.evalLines.writer, bays := (s.withPolicy p).trigger.evalLines.bays }
  rw [h]
  rfl

/-- A change of the policy makes POLICY dirty and triggers the writer (R186, R190). -/
theorem policyChanged_flushed (hd : s.device = .running) : PolicyFlushed s (s.policyChanged p) := by
  have hd' : (s.withPolicy p).device ≠ .faulted := fun hf => absurd (hd.symm.trans hf) (by decide)
  have hpolicy : (s.policyChanged p).policy = p := (policyChanged_parts s p).1
  unfold PolicyFlushed
  rw [hpolicy, policyChanged_writer]
  refine ⟨?_, fun c hc => ?_, fun hw ht => ?_, fun hw ht => ?_⟩
  · cases hw : s.writer.writing with
    | some c => rw [trigger_writing hd' (c := c) hw]
    | none =>
      cases ht : s.writer.dirty.table with
      | true => rw [trigger_table hd' hw ht]
      | false => rw [trigger_policy hd' hw ht rfl]
  · rw [trigger_writing hd' (c := c) hc]
    exact ⟨hc, rfl⟩
  · rw [trigger_table hd' hw ht]
    exact ⟨rfl, rfl⟩
  · rw [trigger_policy hd' hw ht rfl]
    exact ⟨rfl, rfl⟩

theorem evalLines_bay (b : Bay) : s.evalLines.bay b = { s.bay b with line := (s.bay b).line.evaluate (s.target b) } :=
  bay_mapBays s b _

/-- A change of the policy evaluates every permit line with it (R126). -/
theorem policyChanged_lines (hd : s.device = .running) : LinesEvaluated s (s.policyChanged p) := by
  intro b
  rw [(policyChanged_parts s p).1]
  show (s.withPolicy p).trigger.evalLines.bay b = _
  rw [evalLines_bay, withPolicy_frame, target_running]
  · rfl
  · exact hd

end

/-! ### POLICY_SET -/

section

variable {s : State} {r : Request} {rest : List Request}

theorem policySet_refused (h : Taking s .policySet r rest) (hl : r.body.length = 4)
    (hbad : rejectModeOf? (r.byteAt 1) = none ∨ permitModeOf? (r.byteAt 2) = none ∨ permitModeOf? (r.byteAt 3) = none) :
    exec .policySet s = .next (s.answered rest (r.answer .badArg [])) := by
  show Host.Outcome.next (s.take _ _) = _
  rw [take_taking h (by rw [hl]; rfl), ← dequeued_reply]
  split
  · next h1 h2 h3 => simp [h1, h2, h3] at hbad
  · rfl

theorem policySet_acts (h : Taking s .policySet r rest) (hl : r.body.length = 4) {x : RejectMode} {y z : PermitMode}
    (hx : rejectModeOf? (r.byteAt 1) = some x) (hy : permitModeOf? (r.byteAt 2) = some y)
    (hz : permitModeOf? (r.byteAt 3) = some z) :
    exec .policySet s = .next (if s.policy.isSealed then s.answered rest (r.answer .isSealed []) else
      ((s.dequeued rest).policyChanged (s.policy.replaced (BitVec.ofNat 8 (r.byteAt 0)) x y z)).reply r .ok
        (s.policy.replaced (BitVec.ofNat 8 (r.byteAt 0)) x y z).body) := by
  show Host.Outcome.next (s.take _ _) = _
  rw [take_taking h (by rw [hl]; rfl), hx, hy, hz]
  rfl

end

theorem rejectModeOf_code (x : RejectMode) : rejectModeOf? x.code = some x := by cases x <;> rfl

theorem permitModeOf_code (x : PermitMode) : permitModeOf? x.code = some x := by cases x <;> rfl

theorem rejectModeOf_above {n : Nat} (h : 1 < n) : rejectModeOf? n = none := by
  match n, h with
  | n + 2, _ => rfl

theorem permitModeOf_above {n : Nat} (h : 2 < n) : permitModeOf? n = none := by
  match n, h with
  | n + 3, _ => rfl

theorem rejectMode_of_le {n : Nat} (h : n ≤ 1) : ∃ x : RejectMode, n = x.code := by
  match n, h with
  | 0, _ => exact ⟨.inhibit, rfl⟩
  | 1, _ => exact ⟨.allow, rfl⟩

theorem permitMode_of_le {n : Nat} (h : n ≤ 2) : ∃ x : PermitMode, n = x.code := by
  match n, h with
  | 0, _ => exact ⟨.allow, rfl⟩
  | 1, _ => exact ⟨.atSwath, rfl⟩
  | 2, _ => exact ⟨.inhibit, rfl⟩

/-- The four fields of a POLICY_SET body (R180). -/
theorem policySet_fields {r : Request} {allowed : Byte} {rm fm om : Nat} (hrm : rm < 256) (hfm : fm < 256) (hom : om < 256)
    (hb : r.body = [allowed] ++ toBytes 1 rm ++ toBytes 1 fm ++ toBytes 1 om) :
    r.body.length = 4 ∧ BitVec.ofNat 8 (r.byteAt 0) = allowed ∧ r.byteAt 1 = rm ∧ r.byteAt 2 = fm ∧ r.byteAt 3 = om := by
  rw [toBytes_one, toBytes_one, toBytes_one] at hb
  simp [Request.byteAt, field, ofBytes, Nat.mod_eq_of_lt, *]

/-- A flush of the policy leaves POLICY dirty or on its way (R186). -/
theorem PolicyFlushed.dirty_or_writing {s t : State} (h : PolicyFlushed s t) :
    t.writer.dirty.policy = true ∨ t.writer.writing = some (.policy t.policy) := by
  obtain ⟨-, hrunning, htable, hpolicy⟩ := h
  cases hw : s.writer.writing with
  | some c => exact .inl (by rw [(hrunning c hw).2])
  | none =>
    cases ht : s.writer.dirty.table with
    | true => exact .inl (by rw [(htable hw ht).2])
    | false => exact .inr (hpolicy hw ht).1

theorem policy_replaced_byte (p : Policy) (allowed : Byte) (x : RejectMode) (y z : PermitMode) (h : p.isSealed = false) :
    (p.replaced allowed x y z).byte = BitVec.ofNat 8 (2 * x.code + 4 * y.code + 16 * z.code) := by
  unfold Policy.byte Policy.replaced
  rw [h]
  simp

/-- Settles O29. -/
theorem policySetReplaces : Obligations.PolicySetReplaces := by
  intro s r rest allowed rm fm om h hrm hfm hom hb
  obtain ⟨hl, h0, h1, h2, h3⟩ := policySet_fields hrm hfm hom hb
  refine ⟨fun hbad => ?_, fun hr hf ho hsealed => ?_, fun x y z hx hy hz hopen => ?_⟩
  · refine policySet_refused h hl ?_
    rw [h1, h2, h3]
    obtain hbad | hbad | hbad := hbad
    · exact .inl (rejectModeOf_above hbad)
    · exact .inr (.inl (permitModeOf_above hbad))
    · exact .inr (.inr (permitModeOf_above hbad))
  · obtain ⟨x, hx⟩ := rejectMode_of_le hr
    obtain ⟨y, hy⟩ := permitMode_of_le hf
    obtain ⟨z, hz⟩ := permitMode_of_le ho
    rw [policySet_acts h hl (by rw [h1, hx, rejectModeOf_code]) (by rw [h2, hy, permitModeOf_code])
      (by rw [h3, hz, permitModeOf_code]), if_pos hsealed]
  · rw [policySet_acts h hl (by rw [h1, hx, rejectModeOf_code]) (by rw [h2, hy, permitModeOf_code])
      (by rw [h3, hz, permitModeOf_code]), if_neg (by simp [hopen]), h0]
    have hframe := policyChanged_frame (s.dequeued rest) (s.policy.replaced allowed x y z)
    have hlines := policyChanged_lines (s.dequeued rest) (s.policy.replaced allowed x y z) h.1
    have hflushed := policyChanged_flushed (s.dequeued rest) (s.policy.replaced allowed x y z) h.1
    have hbody : (s.policy.replaced allowed x y z).body =
        [BitVec.ofNat 8 (2 * x.code + 4 * y.code + 16 * z.code), allowed] := by
      unfold Policy.body
      rw [policy_replaced_byte _ _ _ _ _ hopen]
      rfl
    refine ⟨_, rfl, ?_⟩
    rw [hbody]
    generalize (s.dequeued rest).policyChanged (s.policy.replaced allowed x y z) = t at hframe hlines hflushed ⊢
    have hpolicy : t.policy = { isSealed := false, allowed := allowed, rejectMode := x, refillMode := y, outMode := z } := by
      rw [hframe]
      show Policy.replaced _ _ _ _ _ = _
      rw [← hopen]
      rfl
    have hreplies : t.replies = s.replies := by rw [hframe]; rfl
    refine ⟨?_, hpolicy, ?_, hlines, hflushed.dirty_or_writing⟩
    · rw [hframe]
      rfl
    · show t.replies ++ _ = _
      rw [hreplies]
      rfl

/-! ### SEAL and KEY_REVOKE -/

section

variable {s : State} {r : Request} {rest : List Request}

theorem exec_seal_taking (h : Taking s .seal r rest) (hb : r.body = []) :
    exec .seal s = .next (if s.policy.isSealed then s.answered rest (r.answer .isSealed []) else
      (s.dequeued rest).sealPolicy.reply r .ok []) := by
  show Host.Outcome.next (s.take _ _) = _
  rw [take_taking h (by rw [hb]; rfl)]
  rfl

theorem keySlotOf_val (k : KeySlot) : keySlotOf? k.val = some k := dif_pos k.isLt

theorem keySlotOf_above {n : Nat} (h : 7 < n) : keySlotOf? n = none := dif_neg (by omega)

theorem byteAt_only {n : Nat} (hn : n < 256) (hb : r.body = toBytes 1 n) : r.byteAt 0 = n :=
  byteAt_front (tail := []) hn (by rw [hb, List.append_nil])

theorem exec_keyRevoke_slot {k : KeySlot} (h : Taking s .keyRevoke r rest) (hb : r.body = toBytes 1 k.val) :
    exec .keyRevoke s = .next (((s.dequeued rest).revokeKey k).reply r .ok
      [((s.dequeued rest).revokeKey k).policy.allowed]) := by
  show Host.Outcome.next (s.take _ _) = _
  rw [take_taking h (by rw [hb, toBytes_length]; rfl), byteAt_only (by omega) hb, keySlotOf_val]

theorem exec_keyRevoke_above {n : Nat} (hn : 7 < n) (h256 : n < 256) (h : Taking s .keyRevoke r rest)
    (hb : r.body = toBytes 1 n) : exec .keyRevoke s = .next (s.answered rest (r.answer .badArg [])) := by
  show Host.Outcome.next (s.take _ _) = _
  rw [take_taking h (by rw [hb, toBytes_length]; rfl), byteAt_only h256 hb, keySlotOf_above hn]
  rfl

end

/-- A request that changes the policy over the one-way area `o`: what it leaves and what it does (R190). -/
theorem policyChanged_over (s : State) (o : OneWay) (p : Policy) (hd : s.device = .running) :
    let t := State.policyChanged { s with oneWay := o } p
    t = { s with policy := p, oneWay := o, writer := t.writer, bays := t.bays } ∧ PolicyFlushed s t ∧ LinesEvaluated s t :=
  ⟨policyChanged_frame { s with oneWay := o } p, policyChanged_flushed { s with oneWay := o } p hd,
    policyChanged_lines { s with oneWay := o } p hd⟩

/-- The bit of one key index. -/
theorem slotBit_getLsbD (k j : KeySlot) : (BitVec.ofNat 8 (2 ^ k.val)).getLsbD j.val = (j == k) := by
  revert k j
  decide

theorem allowed_without_slot (a : BitVec 8) (k j : KeySlot) :
    (a &&& ~~~(BitVec.ofNat 8 (2 ^ k.val))).getLsbD j.val = (a.getLsbD j.val && j != k) := by
  have hj : j.val < 8 := j.isLt
  rw [BitVec.getLsbD_and, BitVec.getLsbD_not, slotBit_getLsbD]
  simp [hj, bne]

/-- KEY_REVOKE's mark is set when the policy is sealed, and no other (R190). -/
theorem markRevoked_revoked (s : State) (k j : KeySlot) :
    (s.markRevoked (BitVec.ofNat 8 (2 ^ k.val))).oneWay.revoked.getLsbD j.val =
      (s.oneWay.revoked.getLsbD j.val || (s.policy.isSealed && j == k)) := by
  unfold State.markRevoked
  cases hs : s.policy.isSealed with
  | false => simp
  | true =>
    show (s.oneWay.revoked ||| BitVec.ofNat 8 (2 ^ k.val)).getLsbD j.val = _
    rw [BitVec.getLsbD_or, slotBit_getLsbD, Bool.true_and]

theorem revokeKey_inside (s : State) (k : KeySlot) (h : s.policy.allowed.getLsbD k.val = true) :
    s.revokeKey k = State.policyChanged { s with oneWay := (s.markRevoked (BitVec.ofNat 8 (2 ^ k.val))).oneWay }
      { s.policy with allowed := s.policy.allowed &&& ~~~(BitVec.ofNat 8 (2 ^ k.val)) } := by
  unfold State.revokeKey
  dsimp only
  rw [if_pos h, markRevoked_frame]

theorem revokeKey_outside (s : State) (k : KeySlot) (h : s.policy.allowed.getLsbD k.val = false) :
    s.revokeKey k = { s with oneWay := (s.markRevoked (BitVec.ofNat 8 (2 ^ k.val))).oneWay } := by
  unfold State.revokeKey
  dsimp only
  rw [if_neg (by rw [h]; decide), markRevoked_frame]

/-- Settles O30. -/
theorem sealAndRevoke : Obligations.SealAndRevoke := by
  intro s r rest
  refine ⟨fun h hb hs => ?_, fun h hb hs => ?_, fun k h hb => ?_, fun n hn h256 h hb => exec_keyRevoke_above hn h256 h hb⟩
  · rw [exec_seal_taking h hb, if_pos hs]
  · rw [exec_seal_taking h hb, if_neg (by simp [hs])]
    obtain ⟨hframe, hflushed, hlines⟩ := policyChanged_over (s.dequeued rest)
      { sealMark := true, revoked := s.oneWay.revoked ||| ~~~s.policy.allowed } { s.policy with isSealed := true } h.1
    refine ⟨_, rfl, ?_⟩
    change (s.dequeued rest).sealPolicy = _ at hframe
    change PolicyFlushed _ (s.dequeued rest).sealPolicy at hflushed
    change LinesEvaluated _ (s.dequeued rest).sealPolicy at hlines
    generalize (s.dequeued rest).sealPolicy = t at hframe hflushed hlines ⊢
    exact ⟨by rw [hframe]; rfl, by rw [hframe]; rfl, by rw [hframe]; rfl, hflushed, hlines⟩
  · rw [exec_keyRevoke_slot h hb]
    obtain ⟨ho, -⟩ := revokeKey_parts (s.dequeued rest) k
    have hmark := (markRevoked_oneWay (s.dequeued rest) (BitVec.ofNat 8 (2 ^ k.val))).1
    have hrevoked := markRevoked_revoked (s.dequeued rest) k
    rw [← ho] at hmark hrevoked
    refine ⟨_, rfl, ?_⟩
    cases hk : s.policy.allowed.getLsbD k.val with
    | true =>
      obtain ⟨hframe, hflushed, hlines⟩ := policyChanged_over (s.dequeued rest)
        ((s.dequeued rest).markRevoked (BitVec.ofNat 8 (2 ^ k.val))).oneWay
        { s.policy with allowed := s.policy.allowed &&& ~~~(BitVec.ofNat 8 (2 ^ k.val)) } h.1
      dsimp only at hframe hflushed hlines
      have hacts := revokeKey_inside (s.dequeued rest) k hk
      change _ = State.policyChanged _ { s.policy with allowed := s.policy.allowed &&& ~~~(BitVec.ofNat 8 (2 ^ k.val)) } at hacts
      rw [← hacts] at hframe hflushed hlines
      generalize (s.dequeued rest).revokeKey k = t at hframe hflushed hlines hmark hrevoked ⊢
      have hpolicy : t.policy = { s.policy with allowed := s.policy.allowed &&& ~~~(BitVec.ofNat 8 (2 ^ k.val)) } := by
        rw [hframe]
      refine ⟨?_, ?_, fun j => ?_, hmark, hrevoked, fun _ => ⟨hflushed, hlines⟩, fun hno => absurd hno (by simp)⟩
      · rw [hframe]
        rfl
      · show t.policy = { s.policy with allowed := t.policy.allowed }
        rw [hpolicy]
      · show t.policy.allowed.getLsbD j.val = _
        rw [hpolicy]
        exact allowed_without_slot _ k j
    | false =>
      have hframe := revokeKey_outside (s.dequeued rest) k hk
      generalize (s.dequeued rest).revokeKey k = t at hframe hmark hrevoked ⊢
      have hpolicy : t.policy = s.policy := by rw [hframe]; rfl
      refine ⟨?_, ?_, fun j => ?_, hmark, hrevoked, fun hyes => absurd hyes (by simp), fun _ => ⟨?_, hpolicy, ?_⟩⟩
      · rw [hframe]
        rfl
      · show t.policy = { s.policy with allowed := t.policy.allowed }
        rw [hpolicy]
      · show t.policy.allowed.getLsbD j.val = _
        rw [hpolicy]
        by_cases hj : j = k
        · subst hj
          rw [hk]
          rfl
        · simp [hj]
      · show t.writer = s.writer
        rw [hframe]
        rfl
      · show t.bays = s.bays
        rw [hframe]
        rfl

end Sys2Proof.Machine

/-! The store writer at the end of a section write, and the power-fail save: O55 and O56. -/

namespace Sys2Proof.Machine

/-! ### The section a walk picks (R186) -/

section

variable {w : Writer}

theorem pick_table (hd : w.dirty.table = true) (hf : w.failed.table = false) : w.pick = some .table := by
  unfold Writer.pick
  rw [hd, hf]
  rfl

theorem pick_policy (ht : w.dirty.table = true → w.failed.table = true) (hd : w.dirty.policy = true)
    (hf : w.failed.policy = false) : w.pick = some .policy := by
  unfold Writer.pick
  rw [if_neg (by simpa using ht), hd, hf]
  rfl

theorem pick_settings (ht : w.dirty.table = true → w.failed.table = true) (hp : w.dirty.policy = true → w.failed.policy = true)
    (hd : w.dirty.settings = true) (hf : w.failed.settings = false) : w.pick = some .settings := by
  unfold Writer.pick
  rw [if_neg (by simpa using ht), if_neg (by simpa using hp), hd, hf]
  rfl

theorem pick_none (ht : w.dirty.table = true → w.failed.table = true) (hp : w.dirty.policy = true → w.failed.policy = true)
    (hs : w.dirty.settings = true → w.failed.settings = true) : w.pick = none := by
  unfold Writer.pick
  rw [if_neg (by simpa using ht), if_neg (by simpa using hp), if_neg (by simpa using hs)]

end

section

variable {s : State}

theorem walkNext_some {sec : StoreSection} (h : s.writer.pick = some sec) : s.walkNext = s.beginWrite sec := by
  unfold State.walkNext
  rw [h]

theorem walkNext_none (h : s.writer.pick = none) : s.walkNext = s.walkEnd := by
  unfold State.walkNext
  rw [h]

/-- The end of a walk, with no waiting RESTART that lost its reservation. -/
theorem walkEnd_held (h : ∀ w ∈ s.waiters, w.isRestart = true → w.reserved = true) : s.walkEnd = s.walkEnded := by
  rw [walkEnd_eq, if_neg]
  simpa using h

/-- The end of a walk on which a RESTART without its reservation waits (log 16). -/
theorem walkEnd_restarts (h : ∃ w ∈ s.waiters, w.isRestart = true ∧ w.reserved = false) : s.walkEnd = coldStart s.walkEnded := by
  rw [walkEnd_eq, if_pos]
  simpa using h

theorem walkEnd_writing (s : State) : s.walkEnd.writer.writing = none := by
  rw [walkEnd_eq]
  split <;> rfl

theorem walkNext_store (s : State) : s.walkNext.store = s.store := by
  unfold State.walkNext
  split
  · rfl
  · rw [walkEnd_eq]
    split <;> rfl

/-- A walk that goes on has picked a section, and changed the writer alone. -/
theorem walkNext_frame (h : s.walkNext.writer.writing ≠ none) : s.walkNext = { s with writer := s.walkNext.writer } := by
  cases hp : s.writer.pick with
  | none => exact absurd (by rw [walkNext_none hp]; exact walkEnd_writing s) h
  | some sec =>
    rw [walkNext_some hp]
    rfl

theorem savesNow_iff : s.savesNow = true ↔
    s.writer.dirty.table = false ∧ (s.save = .saving ∨ ∃ w ∈ s.waiters, w.isRestart = true) := by
  unfold State.savesNow
  simp

end

/-! ### The end of a section write (R186) -/

/-- A set of sections with one more, when a write of it failed. -/
def Sections.afterWrite (d : Sections) (c : SectionCopy) (ok : Bool) : Sections :=
  { table := d.table || (!ok && decide (StoreSection.table = c.whose))
    policy := d.policy || (!ok && decide (StoreSection.policy = c.whose))
    settings := d.settings || (!ok && decide (StoreSection.settings = c.whose)) }

theorem afterWrite_success (d : Sections) (c : SectionCopy) : d.afterWrite c true = d := by simp [Sections.afterWrite]

theorem afterWrite_failure (d : Sections) (c : SectionCopy) : d.afterWrite c false = d.set c.whose true := by
  cases c <;> simp [Sections.afterWrite, Sections.set, SectionCopy.whose]

/-- The state in which the walk goes on when the write of a copy has ended. -/
def State.afterWrite (s : State) (c : SectionCopy) (ok : Bool) : State :=
  { s with
    store := if ok then s.store.write c else s.store
    writer := { writing := none, dirty := s.writer.dirty.afterWrite c ok, failed := s.writer.failed.afterWrite c ok }
    latches := if ok then s.latches else (s.latch deviceSite .storeFault).latches }

section

variable {s : State}

theorem latch_writer (s : State) (w : Writer) (site : Site) (k : Kind) :
    (State.latch { s with writer := w } site k).latches = (s.latch site k).latches :=
  latch_latches_congr (s := s) (t := { s with writer := w }) rfl rfl site k

theorem writeComplete_idle (h : s.writer.writing = none) (ok : Bool) : s.writeComplete ok = s := by
  unfold State.writeComplete
  rw [h]

theorem writeComplete_writing {c : SectionCopy} (h : s.writer.writing = some c) (ok : Bool) :
    s.writeComplete ok = (s.afterWrite c ok).walkNext := by
  unfold State.writeComplete State.afterWrite
  rw [h]
  dsimp only
  cases ok with
  | true => rw [afterWrite_success, afterWrite_success]; rfl
  | false =>
    rw [afterWrite_failure, afterWrite_failure, latch_frame, latch_writer]
    rfl

/-- What a walk that ends leaves, where no RESTART has lost its reservation (R187, R188, R189). -/
theorem walkEnded_saves (s : State) :
    (s.writer.dirty.table = false → s.save = .saving ∨ (∃ w ∈ s.waiters, w.isRestart = true) →
      s.walkEnded.save = .saved ∧ s.walkEnded.latchOf deviceSite Kind.saved.code ≠ none) ∧
    (s.writer.dirty.table = true ∨ s.save ≠ .saving ∧ (∀ w ∈ s.waiters, w.isRestart = false) → s.walkEnded.save = s.save) := by
  refine ⟨fun ht hs => ?_, fun h => ?_⟩
  · have hnow : s.savesNow = true := savesNow_iff.2 ⟨ht, hs⟩
    refine ⟨if_pos hnow, ?_⟩
    have hlatches : s.walkEnded.latches = (s.latch deviceSite .saved).latches := if_pos hnow
    show s.walkEnded.latches[deviceSite][Kind.saved.code] ≠ none
    rw [hlatches]
    exact latch_set s deviceSite .saved
  · have hnot : ¬s.savesNow = true := by
      rw [savesNow_iff]
      rintro ⟨ht, hs⟩
      obtain h | ⟨h, hw⟩ := h
      · exact absurd (h.symm.trans ht) (by decide)
      · obtain hs | ⟨w, hmem, hr⟩ := hs
        · exact h hs
        · exact absurd ((hw w hmem).symm.trans hr) (by decide)
    exact if_neg hnot

theorem sections_isEmpty (d : Sections) : d.isEmpty = !(d.table || d.policy || d.settings) := by
  simp [Sections.isEmpty, Bool.and_assoc]

/-- The replies at the end of a walk, as the rules word them (R187, R189). -/
theorem waiterReplies_eq (d : Sections) (ws : List SaveWaiter) : waiterReplies d ws = (ws.filter (·.reserved)).map fun w =>
    if w.isRestart then
      { ticket := w.ticket, kind := 0x52, result := if d.table then .partially else .ok, body := [] }
    else
      { ticket := w.ticket, kind := 0x51
        result := if d.table || d.policy || d.settings then .partially else .ok, body := [] } := by
  unfold waiterReplies
  refine List.map_congr_left fun w _ => ?_
  unfold SaveWaiter.reply
  rw [sections_isEmpty]
  cases d.table || d.policy || d.settings <;> rfl

end

/-- Settles O55: the write ends in `afterWrite`, and the walk goes on by its pick or ends by `walkEnd_eq`. -/
theorem storeWriteEnds : Obligations.StoreWriteEnds := by
  intro s ok
  refine ⟨fun h => congrArg Host.Outcome.next (writeComplete_idle h ok), fun c hc => ?_⟩
  have hexec : exec (.storeWriteComplete ok) s = .next (s.afterWrite c ok).walkNext :=
    congrArg Host.Outcome.next (writeComplete_writing hc ok)
  have hstore : (s.afterWrite c ok).walkNext.store = if ok then s.store.write c else s.store := walkNext_store _
  rw [hexec]
  refine ⟨_, rfl, fun hno => ?_, fun e hok he => ?_, fun p hok hp => ?_, fun x hok hx => ?_, fun hd hf => ?_,
    fun ht hd hf => ?_, fun ht hp hd hf => ?_, fun h => ?_, fun ht hp hd hw => ?_, fun ht hp hd hw => ?_⟩
  · rw [hstore, hno]
    rfl
  · rw [hstore, hok, he]
    rfl
  · rw [hstore, hok, hp]
    rfl
  · rw [hstore, hok, hx]
    rfl
  · rw [walkNext_some (pick_table (w := (s.afterWrite c ok).writer) hd hf)]
    rfl
  · rw [walkNext_some (pick_policy (w := (s.afterWrite c ok).writer) ht hd hf)]
    rfl
  · rw [walkNext_some (pick_settings (w := (s.afterWrite c ok).writer) ht hp hd hf)]
    rfl
  · have hframe := walkNext_frame h
    generalize (s.afterWrite c ok).walkNext = t at hframe hstore
    have hlatches : t.latches = if ok then s.latches else (s.latch deviceSite .storeFault).latches := by
      rw [hframe]
      rfl
    refine ⟨?_, fun hok => ?_, fun hno => ?_⟩
    · rw [hframe]
      rfl
    · rw [hlatches, hok]
      rfl
    · show t.latches[deviceSite][Kind.storeFault.code] ≠ none
      rw [hlatches, hno]
      exact latch_set s deviceSite .storeFault
  · rw [walkNext_none (pick_none (w := (s.afterWrite c ok).writer) ht hp hd), walkEnd_held (s := s.afterWrite c ok) hw]
    obtain ⟨hsaved, hkept⟩ := walkEnded_saves (s.afterWrite c ok)
    exact ⟨rfl, rfl, hsaved, hkept, congrArg (s.replies ++ ·) (waiterReplies_eq _ s.waiters)⟩
  · rw [walkNext_none (pick_none (w := (s.afterWrite c ok).writer) ht hp hd), walkEnd_restarts (s := s.afterWrite c ok) hw]
    exact ⟨rfl, rfl⟩

end Sys2Proof.Machine

/-! The power-fail save: O56. -/

namespace Sys2Proof.Machine

/-! ### A flush of the table with nothing else dirty to begin (R72, R188) -/

section

variable (s : State)

/-- TABLE is marked dirty and the writer triggered (R188). -/
def State.tableFlushed (s : State) : State := (s.markDirty .table).trigger

theorem tableFlushed_frame : s.tableFlushed = { s with writer := s.tableFlushed.writer } := by
  have hdirty : (s.markDirty .table).writer.dirty.isEmpty = false := markDirty_dirty _ _
  unfold State.tableFlushed
  rw [trigger_frame hdirty]
  rfl

theorem tableFlushed_idle (hd : s.device = .running) (hw : s.writer.writing = none) :
    s.tableFlushed.writer.writing = some (.table s.table) := by
  have hd' : (s.markDirty .table).device ≠ .faulted := fun hf => absurd (hd.symm.trans hf) (by decide)
  unfold State.tableFlushed
  rw [trigger_table hd' hw rfl]
  rfl

theorem tableFlushed_writing {c : SectionCopy} (hw : s.writer.writing = some c) :
    s.tableFlushed.writer.writing = some c ∧ s.tableFlushed.writer.dirty.table = true := by
  unfold State.tableFlushed
  by_cases hd : (s.markDirty .table).device = .faulted
  · rw [trigger_faulted hd]
    exact ⟨hw, rfl⟩
  · rw [trigger_writing hd (c := c) hw]
    exact ⟨hw, rfl⟩

theorem tableFlushed_failed (hd : s.device = .running) : s.tableFlushed.writer.failed = Sections.empty := by
  have hd' : (s.markDirty .table).device ≠ .faulted := fun hf => absurd (hd.symm.trans hf) (by decide)
  unfold State.tableFlushed
  cases hw : s.writer.writing with
  | some c => rw [trigger_writing hd' (c := c) hw]
  | none => rw [trigger_table hd' hw rfl]

end

/-! ### The shadow write of every bound bay (R70, R188) -/

/-- From `s` to `t` the table was rewritten entry by entry, and at most TABLE became dirty. -/
structure Rewrites (s t : State) : Prop where
  frame : t = { s with table := t.table, writer := t.writer }
  writer : t.writer = { s.writer with dirty := { s.writer.dirty with table := t.writer.dirty.table } }
  length : t.table.length = s.table.length

namespace Rewrites

variable {s t u : State}

theorem refl (s : State) : Rewrites s s := ⟨rfl, rfl, rfl⟩

theorem trans (h : Rewrites s t) (h' : Rewrites t u) : Rewrites s u :=
  ⟨by rw [h'.frame, h.frame], by rw [h'.writer, h.writer], h'.length.trans h.length⟩

theorem bay (h : Rewrites s t) (b : Bay) : t.bay b = s.bay b := by
  rw [State.bay, h.frame]
  rfl

theorem writing (h : Rewrites s t) : t.writer.writing = s.writer.writing := by rw [h.writer]

theorem device (h : Rewrites s t) : t.device = s.device := by rw [h.frame]

end Rewrites

theorem setTable_rewrites (s : State) {t : List Entry} (h : t.length = s.table.length) : Rewrites s (s.setTable t) := by
  refine ⟨by rw [setTable_table]; exact setTable_frame s t, ?_, by rw [setTable_table]; exact h⟩
  unfold State.setTable
  split <;> rfl

/-- The entries that name a bay hold the unwritten use of its binding (R58, R69). -/
def ShadowsBay (s : State) (b : Bay) (table : List Entry) : Prop :=
  ∀ e ∈ table, e.bay = some b → ∀ bd, (s.bay b).phase.binding? = some bd → e.owed = bd.acct.pending ∧
    e.unsure = bd.commit.state.target?.map fun T => { target := T, amount := bd.acct.inflight }

theorem withEntry_length (s : State) (b : Bay) (f : Entry → Entry) : (s.withEntry b f).length = s.table.length :=
  List.length_map _

theorem shadowTable_length (s : State) (b : Bay) : (s.shadowTable b).length = s.table.length := by
  unfold State.shadowTable
  split
  · rfl
  · exact withEntry_length s b _

theorem shadowTable_shadows (s : State) (b : Bay) : ShadowsBay s b (s.shadowTable b) := by
  intro e he hb bd hbd
  unfold State.shadowTable at he
  rw [hbd] at he
  obtain ⟨e₀, -, rfl⟩ := List.mem_map.1 he
  split
  · exact ⟨rfl, rfl⟩
  · next hno =>
    rw [if_neg hno] at hb
    exact absurd hb hno

/-- The shadow write of one bay leaves what another's has written. -/
theorem shadowTable_keeps_shadows {s : State} {b : Bay} (h : ShadowsBay s b s.table) (c : Bay) : ShadowsBay s b (s.shadowTable c) := by
  by_cases hcb : c = b
  · exact hcb ▸ shadowTable_shadows s c
  intro e he hb
  unfold State.shadowTable at he
  split at he
  · exact h e he hb
  · obtain ⟨e₀, he₀, rfl⟩ := List.mem_map.1 he
    split at hb
    · next hc => exact absurd (Option.some.inj (hc.symm.trans hb)) hcb
    · next hc => rw [if_neg hc]; exact h e₀ he₀ hb

theorem shadowFold (cs : List Bay) (s : State) :
    let t := cs.foldl (fun t b => t.setTable (t.shadowTable b)) s
    Rewrites s t ∧ ∀ b, b ∈ cs ∨ ShadowsBay s b s.table → ShadowsBay s b t.table := by
  induction cs generalizing s with
  | nil => exact ⟨Rewrites.refl s, fun b hb => hb.resolve_left List.not_mem_nil⟩
  | cons c cs ih =>
    have hstep : Rewrites s (s.setTable (s.shadowTable c)) := setTable_rewrites s (shadowTable_length s c)
    obtain ⟨hrest, hshadows⟩ := ih (s.setTable (s.shadowTable c))
    have hsame : ∀ b table, ShadowsBay (s.setTable (s.shadowTable c)) b table ↔ ShadowsBay s b table := fun b table => by
      unfold ShadowsBay
      rw [hstep.bay]
    refine ⟨hstep.trans hrest, fun b hb => (hsame b _).1 (hshadows b ?_)⟩
    rw [hsame, setTable_table]
    obtain hb | hb := hb
    · obtain rfl | hb := List.mem_cons.1 hb
      · exact .inr (shadowTable_shadows s b)
      · exact .inl hb
    · exact .inr (shadowTable_keeps_shadows hb c)

theorem shadowAll_rewrites (s : State) : Rewrites s s.shadowAll := (shadowFold allBays s).1

theorem shadowAll_shadows (s : State) (b : Bay) : ShadowsBay s b s.shadowAll.table :=
  (shadowFold allBays s).2 b (.inl (mem_allBays b))

/-! ### PFAIL_ASSERT and PFAIL_DEASSERT (R188) -/

section

variable {s : State}

theorem pfailSave_saves (hd : s.device = .running) (hs : s.save = .none) (hr : s.restarting = false) :
    s.pfailSave = State.tableFlushed { s.shadowAll with save := .saving } := by
  unfold State.pfailSave
  rw [if_pos (by simp [hd, hs, hr])]
  generalize s.shadowAll = u
  rfl

theorem pfailSave_ignored (h : s.device ≠ .running ∨ s.save ≠ .none ∨ s.restarting = true) : s.pfailSave = s := by
  unfold State.pfailSave
  refine if_neg fun hc => ?_
  simp only [Bool.and_eq_true, beq_iff_eq, Bool.not_eq_true'] at hc
  obtain ⟨⟨hd, hs⟩, hr⟩ := hc
  obtain h | h | h := h
  · exact h hd
  · exact h hs
  · exact absurd (h.symm.trans hr) (by decide)

theorem pfailEnd_clears (hs : s.save ≠ .none) (hr : s.restarting = false) : s.pfailEnd =
    { (s.setTable (s.table.map Entry.clearShadow)).tableFlushed with save := .none } := by
  unfold State.pfailEnd
  rw [if_pos (by simp [hs, hr])]
  rfl

theorem pfailEnd_ignored (h : s.save = .none ∨ s.restarting = true) : s.pfailEnd = s := by
  unfold State.pfailEnd
  refine if_neg fun hc => ?_
  simp only [Bool.and_eq_true, bne_iff_ne, Bool.not_eq_true'] at hc
  obtain h | h := h
  · exact hc.1 h
  · exact absurd (h.symm.trans hc.2) (by decide)

theorem clearShadow_eq (e : Entry) : e.clearShadow = if e.bay = none then e else { e with owed := 0, unsure := none } := by
  unfold Entry.clearShadow
  cases e.bay <;> rfl

end

theorem exec_pfailAssert (s : State) : exec .pfailAssert s = .next (State.pfailSave { s with pfail := true }) := rfl

theorem exec_pfailDeassert (s : State) : exec .pfailDeassert s = .next (State.pfailEnd { s with pfail := false }) := rfl

/-- Settles O56. -/
theorem pfailSavesAndClears : Obligations.PfailSavesAndClears := by
  intro s
  refine ⟨fun hd hs hr => ?_, fun h => ?_, fun hs hr => ?_, fun h => ?_⟩
  · rw [exec_pfailAssert, pfailSave_saves (s := { s with pfail := true }) hd hs hr]
    have hrewrites := shadowAll_rewrites { s with pfail := true }
    have hshadows := shadowAll_shadows { s with pfail := true }
    generalize State.shadowAll { s with pfail := true } = u at hrewrites hshadows ⊢
    have hdu : u.device = .running := hrewrites.device.trans hd
    have hframe := tableFlushed_frame { u with save := .saving }
    have htable : (State.tableFlushed { u with save := .saving }).table = u.table := by rw [hframe]
    refine ⟨_, rfl, ?_, ?_, tableFlushed_failed _ hdu, fun hw => ?_, fun c hc => ?_, ?_⟩
    · rw [htable, hframe, hrewrites.frame]
    · rw [htable]
      exact hrewrites.length
    · rw [htable]
      exact tableFlushed_idle { u with save := .saving } hdu (hrewrites.writing.trans hw)
    · exact tableFlushed_writing { u with save := .saving } (hrewrites.writing.trans hc)
    · rw [htable]
      exact fun e he b bd hb hbd => hshadows b e he hb bd hbd
  · rw [exec_pfailAssert, pfailSave_ignored (s := { s with pfail := true }) h]
  · rw [exec_pfailDeassert, pfailEnd_clears (s := { s with pfail := false }) hs hr]
    have hrewrites := setTable_rewrites { s with pfail := false } (List.length_map (as := s.table) Entry.clearShadow)
    have htable := setTable_table { s with pfail := false } (s.table.map Entry.clearShadow)
    generalize State.setTable { s with pfail := false } (s.table.map Entry.clearShadow) = u at hrewrites htable ⊢
    have hframe := tableFlushed_frame u
    have hflushed : u.tableFlushed.table = u.table := by rw [hframe]
    refine ⟨_, rfl, ?_, ?_, fun hd hw => ?_, fun c hc => tableFlushed_writing u (hrewrites.writing.trans hc)⟩
    · show ({ u.tableFlushed with save := .none } : State) = _
      rw [hflushed, hframe, hrewrites.frame]
    · show u.tableFlushed.table = _
      rw [hflushed, htable]
      exact List.map_congr_left fun e _ => clearShadow_eq e
    · show u.tableFlushed.writer.writing = some (.table u.tableFlushed.table)
      rw [hflushed]
      exact tableFlushed_idle u (hrewrites.device.trans hd) (hrewrites.writing.trans hw)
  · rw [exec_pfailDeassert, pfailEnd_ignored (s := { s with pfail := false }) h]

end Sys2Proof.Machine

/-! STORE_SAVE and RESTART: O37 and O38. -/

namespace Sys2Proof.Machine

/-! ### The triggers of every bay (R102) -/

section

variable (s : State)

theorem evalTriggers_none (b : Bay) (n : Nat) (h : s.save = .none) :
    (s.evalTriggers b n).table = s.table ∧ (s.evalTriggers b n).writer = s.writer := by
  unfold State.evalTriggers
  split
  · exact ⟨rfl, rfl⟩
  · split
    · rw [changeCommit_none (s.modBay b fun r => { r with slot := some .commit }) _ _ h]
      exact ⟨rfl, rfl⟩
    · exact ⟨rfl, rfl⟩

/-- A flush does not stop a write in progress (R186). -/
theorem flushTable_writing {c : SectionCopy} (t : List Entry) (h : s.writer.writing = some c) :
    (s.flushTable t).writer.writing = some c := by
  unfold State.flushTable
  split
  · exact h
  · exact (tableFlushed_writing { s with table := t } h).1

theorem evalTriggers_writing {c : SectionCopy} (b : Bay) (n : Nat) (h : s.writer.writing = some c) :
    (s.evalTriggers b n).writer.writing = some c := by
  unfold State.evalTriggers
  split
  · exact h
  · split
    · unfold State.changeCommit State.shadowIfSaving
      split
      · exact h
      · exact flushTable_writing _ _ h
    · exact h

/-- The triggers of every bay change bays, table, writer and latches alone. -/
theorem evalForSave_frame : s.evalForSave = { s with
    bays := s.evalForSave.bays, table := s.evalForSave.table, writer := s.evalForSave.writer
    latches := s.evalForSave.latches } := by
  have hfold : ∀ (cs : List Bay) (s t : State), cs.foldl (fun t b => t.evalTriggers b 1) s = t →
      t = { s with bays := t.bays, table := t.table, writer := t.writer, latches := t.latches } := by
    intro cs
    induction cs with
    | nil =>
      rintro s _ rfl
      rfl
    | cons c cs ih =>
      intro s t ht
      have hrest := ih (s.evalTriggers c 1) t ht
      have hfirst := (evalTriggers_only s c 1).frame
      generalize s.evalTriggers c 1 = u at hrest hfirst
      rw [hrest, hfirst]
  exact hfold allBays s _ rfl

theorem evalForSave_none (h : s.save = .none) : s.evalForSave.table = s.table ∧ s.evalForSave.writer = s.writer := by
  have hfold : ∀ (cs : List Bay) (s : State), s.save = .none →
      (cs.foldl (fun t b => t.evalTriggers b 1) s).table = s.table ∧
        (cs.foldl (fun t b => t.evalTriggers b 1) s).writer = s.writer := by
    intro cs
    induction cs with
    | nil => exact fun _ _ => ⟨rfl, rfl⟩
    | cons c cs ih =>
      intro s hs
      obtain ⟨ht, hw⟩ := evalTriggers_none s c 1 hs
      obtain ⟨ht', hw'⟩ := ih (s.evalTriggers c 1) ((evalTriggers_only s c 1).save.trans hs)
      exact ⟨ht'.trans ht, hw'.trans hw⟩
  exact hfold allBays s h

theorem evalForSave_writing {c : SectionCopy} (h : s.writer.writing = some c) : s.evalForSave.writer.writing = some c := by
  have hfold : ∀ (cs : List Bay) (s : State), s.writer.writing = some c →
      (cs.foldl (fun t b => t.evalTriggers b 1) s).writer.writing = some c := by
    intro cs
    induction cs with
    | nil => exact fun _ => id
    | cons d cs ih =>
      intro s hs
      rw [List.foldl_cons]
      exact ih _ (evalTriggers_writing s d 1 hs)
  unfold State.evalForSave
  exact hfold allBays s h

/-- The bays before and behind one. -/
theorem allBays_split : ∀ b : Bay, allBays = allBays.take b.val ++ b :: allBays.drop (b.val + 1) ∧
    b ∉ allBays.take b.val ∧ b ∉ allBays.drop (b.val + 1) := by decide

/-- A bay's own evaluation is the only one that changes it (R102). -/
theorem evalForSave_bay (b : Bay) : ∃ t : State, t.bay b = s.bay b ∧ s.evalForSave.bay b = (t.evalTriggers b 1).bay b := by
  have hfold : ∀ (cs : List Bay), b ∉ cs → ∀ s : State, (cs.foldl (fun t b => t.evalTriggers b 1) s).bay b = s.bay b := by
    intro cs hb
    induction cs with
    | nil => exact fun _ => rfl
    | cons c cs ih =>
      rw [List.mem_cons, not_or] at hb
      intro s
      rw [List.foldl_cons, ih hb.2]
      exact (evalTriggers_only s c 1).others b hb.1
  obtain ⟨hsplit, hbefore, hafter⟩ := allBays_split b
  refine ⟨(allBays.take b.val).foldl (fun t b => t.evalTriggers b 1) s, hfold _ hbefore s, ?_⟩
  unfold State.evalForSave
  conv_lhs => rw [hsplit]
  rw [List.foldl_append, List.foldl_cons, hfold _ hafter]

end

/-! ### A trigger on which no RESTART without its reservation waits -/

section

variable {s : State}

/-- Such a trigger leaves bays, table and most of the rest (R186, R187). -/
theorem trigger_held (h : ∀ w ∈ s.waiters, w.isRestart = true → w.reserved = true) : s.trigger = { s with
    writer := s.trigger.writer, save := s.trigger.save, latches := s.trigger.latches, replies := s.trigger.replies
    waiters := s.trigger.waiters } := by
  unfold State.trigger
  split
  · rfl
  · dsimp only
    split
    · rfl
    · cases hp : Writer.pick { s.writer with failed := Sections.empty } with
      | some sec =>
        rw [walkNext_some (s := { s with writer := { s.writer with failed := Sections.empty } }) hp]
        rfl
      | none =>
        rw [walkNext_none (s := { s with writer := { s.writer with failed := Sections.empty } }) hp,
          walkEnd_held (s := { s with writer := { s.writer with failed := Sections.empty } }) h]
        rfl

/-- With nothing dirty a trigger of an IDLE writer ends the walk at once (R187). -/
theorem trigger_clean (hd : s.device ≠ .faulted) (hw : s.writer.writing = none) (hclean : s.writer.dirty = Sections.empty)
    (h : ∀ w ∈ s.waiters, w.isRestart = true → w.reserved = true) :
    s.trigger.replies = s.replies ++ waiterReplies Sections.empty s.waiters ∧ s.trigger.waiters = [] ∧
      s.trigger.writer.writing = none := by
  have hpick : Writer.pick { s.writer with failed := Sections.empty } = none := by
    unfold Writer.pick
    rw [hclean]
    rfl
  have htrigger : s.trigger = State.walkEnded { s with writer := { s.writer with failed := Sections.empty } } := by
    unfold State.trigger
    rw [if_neg (by simpa using hd), hw]
    dsimp only
    rw [walkNext_none (s := { s with writer := { s.writer with failed := Sections.empty } }) hpick,
      walkEnd_held (s := { s with writer := { s.writer with failed := Sections.empty } }) h]
  rw [htrigger]
  refine ⟨?_, rfl, rfl⟩
  show s.replies ++ waiterReplies s.writer.dirty s.waiters = _
  rw [hclean]

end

/-! ### STORE_SAVE (R187) -/

section

variable {s : State} {r : Request} {rest : List Request}

theorem exec_storeSave_taking (h : Taking s .storeSave r rest) (hb : r.body = []) :
    exec .storeSave s = .next (((s.dequeued rest).evalForSave.await r false).trigger).runArbiters := by
  show Host.Outcome.next (s.take _ _) = _
  rw [take_taking h (by rw [hb]; rfl)]

end

/-- Settles O37. -/
theorem storeSaveWaits : Obligations.StoreSaveWaits := by
  intro s r rest h hb
  refine ⟨_, exec_storeSave_taking h hb, ?_⟩
  have hframe := evalForSave_frame (s.dequeued rest)
  have hbays := evalForSave_bay (s.dequeued rest)
  have hnone : s.save = .none → _ := evalForSave_none (s.dequeued rest)
  have hwriting : ∀ c, s.writer.writing = some c → _ := fun c => evalForSave_writing (s.dequeued rest) (c := c)
  generalize (s.dequeued rest).evalForSave = u at hframe hbays hnone hwriting ⊢
  have hdevice : u.device = .running := by rw [hframe]; exact h.1
  have hd : (u.await r false).device ≠ .faulted := fun hf => absurd (hdevice.symm.trans hf) (by decide)
  have hwaiters : (u.await r false).waiters = s.waiters ++ [{ isRestart := false, ticket := r.ticket, reserved := true }] := by
    show u.waiters ++ _ = _
    rw [hframe]
    rfl
  have hreplies : u.replies = s.replies := by rw [hframe]; rfl
  have hheld : s.waiters = [] → ∀ w ∈ (u.await r false).waiters, w.isRestart = true → w.reserved = true := fun hw w hmem _ => by
    rw [hwaiters, hw] at hmem
    rw [List.mem_singleton.1 hmem]
  refine ⟨fun b bd hact hidle hrel hfree hw => ?_, fun hs hw hwr hclean => ?_, fun c hc => ?_, fun hs hwr ht hp hset => ?_⟩
  · have hbay : (u.await r false).trigger.bay b = u.bay b := by
      rw [State.bay, trigger_held (hheld hw)]
      rfl
    obtain ⟨t, hsame, heval⟩ := hbays b
    have hact' : (t.bay b).phase = .active bd := by rw [hsame]; exact hact
    rw [hbay, heval]
    have hfires := evalTriggers_fires hact' hidle hrel (n := 1) ((fires_iff bd 1).2 (.inl hfree))
    rw [hfires]
    exact ⟨rfl, rfl⟩
  · obtain ⟨-, hwriter⟩ := hnone hs
    obtain ⟨hr, hwt, hidle⟩ := trigger_clean hd (show u.writer.writing = none by rw [hwriter]; exact hwr)
      (show u.writer.dirty = _ by rw [hwriter]; exact hclean) (hheld hw)
    refine ⟨hr.trans ?_, hwt, hidle⟩
    show u.replies ++ _ = _
    rw [hreplies, hwaiters, hw]
    obtain ⟨-, -, hkind⟩ := h
    simp [waiterReplies, SaveWaiter.reply, Request.answer, hkind, Sections.empty, Sections.isEmpty]
  · rw [trigger_writing hd (c := c) (hwriting c hc)]
    exact ⟨hreplies, hwaiters, hwriting c hc, rfl⟩
  · obtain ⟨-, hwriter⟩ := hnone hs
    have hdirty : (u.await r false).writer = s.writer := hwriter
    have hdirty' : (u.await r false).writer.dirty.isEmpty = false := by rw [hdirty]; simp [Sections.isEmpty, hset]
    rw [trigger_settings hd (by rw [hdirty]; exact hwr) (by rw [hdirty]; exact ht) (by rw [hdirty]; exact hp)
      (by rw [hdirty]; exact hset), trigger_frame hdirty']
    refine ⟨?_, hreplies⟩
    show some (SectionCopy.settings u.settings) = _
    rw [hframe]
    rfl

/-! ### RESTART (R189) -/

section

variable {s : State} {r : Request} {rest : List Request}

theorem restart_taken (hr : s.requests = r :: rest) (hk : r.kind = 0x52) (hb : r.body = []) :
    exec .restart s = .next (if s.device == .faulted then s.answered rest (r.answer .ok [])
      else if s.restarting then s.answered rest (r.answer .busy []) else ((s.dequeued rest).restartSave r).runArbiters) := by
  show Host.Outcome.next (s.take _ _) = _
  unfold State.take State.judgeTaken
  rw [hr]
  dsimp only
  rw [if_pos (show r.kind = ReqKind.code .restart from hk), if_neg (by simp [ReqKind.servedFaulted]), if_pos (by rw [hb]; rfl)]
  rfl

theorem restartSave_eq (u : State) (r : Request) : u.restartSave r = State.tableFlushed
    { (State.evalForSave { u with restarting := true }).shadowAll with
      save := if (State.evalForSave { u with restarting := true }).shadowAll.save == .saved then .saved else .saving
      waiters := (State.evalForSave { u with restarting := true }).shadowAll.waiters ++
        [{ isRestart := true, ticket := r.ticket, reserved := true }] } := by
  unfold State.restartSave
  dsimp only
  generalize (State.evalForSave { u with restarting := true }).shadowAll = v
  rfl

end

/-- Settles O38. -/
theorem restartSaves : Obligations.RestartSaves := by
  intro s r rest hr hk hb
  rw [restart_taken hr hk hb]
  refine ⟨fun hd => by rw [hd]; rfl, fun hd hre => by rw [hd, hre]; rfl, fun hd hre => ⟨(s.dequeued rest).restartSave r, ?_, ?_⟩⟩
  · rw [if_neg (by simp [hd]), if_neg (by simp [hre])]
  rw [restartSave_eq]
  have hframe := evalForSave_frame { s.dequeued rest with restarting := true }
  have hnone : s.save = .none → _ := evalForSave_none { s.dequeued rest with restarting := true }
  generalize State.evalForSave { s.dequeued rest with restarting := true } = u at hframe hnone ⊢
  have hrewrites := shadowAll_rewrites u
  have hshadows := shadowAll_shadows u
  generalize u.shadowAll = v at hrewrites hshadows ⊢
  have hdevice : v.device = .running := by rw [hrewrites.frame, hframe]; exact hd
  have hsave : v.save = s.save := by rw [hrewrites.frame, hframe]; rfl
  have hwaiters : v.waiters = s.waiters := by rw [hrewrites.frame, hframe]; rfl
  rw [hsave, hwaiters]
  have hv := tableFlushed_frame { v with
    save := if s.save == .saved then .saved else .saving
    waiters := s.waiters ++ [{ isRestart := true, ticket := r.ticket, reserved := true }] }
  have hidle := tableFlushed_idle { v with
    save := if s.save == .saved then .saved else .saving
    waiters := s.waiters ++ [{ isRestart := true, ticket := r.ticket, reserved := true }] } hdevice
  have hbusy := fun c => tableFlushed_writing { v with
    save := if s.save == .saved then .saved else .saving
    waiters := s.waiters ++ [{ isRestart := true, ticket := r.ticket, reserved := true }] } (c := c)
  have hfailed := tableFlushed_failed { v with
    save := if s.save == .saved then .saved else .saving
    waiters := s.waiters ++ [{ isRestart := true, ticket := r.ticket, reserved := true }] } hdevice
  generalize State.tableFlushed { v with
    save := if s.save == .saved then .saved else .saving
    waiters := s.waiters ++ [{ isRestart := true, ticket := r.ticket, reserved := true }] } = t at hv hidle hbusy hfailed ⊢
  refine ⟨?_, ?_, ?_, ?_, ?_, ?_, hfailed, fun hwr hs => ?_, fun e he b bd hbay hbd => ?_⟩
  · rw [hv, hrewrites.frame, hframe]
  · rw [hv]
    exact hdevice
  · rw [hv]
    show (if s.save == .saved then SaveState.saved else .saving) = _
    simp
  · rw [hv, hrewrites.frame, hframe]
    rfl
  · rw [hv]
  · cases hw : v.writer.writing with
    | none => rw [hidle hw]; simp
    | some c => rw [(hbusy c hw).1]; simp
  · rw [hidle (hrewrites.writing.trans (by rw [(hnone hs).2]; exact hwr)), hv]
  · have htable : t.table = v.table := by rw [hv]
    have hbays : t.bay b = u.bay b := by
      rw [State.bay, hv, ← hrewrites.bay b]
      rfl
    rw [hbays] at hbd
    exact hshadows b e (htable ▸ he) hbay bd hbd

end Sys2Proof.Machine

/-! Frames and link resets: O6, O7 and O8. -/

namespace Sys2Proof.Machine

/-! ### The outbound frame (R161, R169) -/

section

variable {s : State}

/-- The levels are searched from the most urgent on (R161). -/
theorem allLevels_split : ∀ lv : Level, allLevels[lv.val]? = some lv ∧ ∀ m ∈ allLevels.take lv.val, m < lv := by decide

theorem noticeRecord_eq {lv : Level} (h : s.offerable lv = true) (hbefore : ∀ m, m < lv → s.offerable m = false) :
    s.noticeRecord = some (.notice lv ((s.latchedPairs lv).take 57)) := by
  obtain ⟨hl, hlower⟩ := allLevels_split lv
  obtain ⟨hlen, hget⟩ := List.getElem?_eq_some_iff.1 hl
  have hfound : allLevels.find? s.offerable = some lv := by
    refine List.find?_eq_some_iff_getElem.2 ⟨h, lv.val, hlen, hget, fun j hj => ?_⟩
    rw [hbefore _ (hlower _ (List.mem_take_iff_getElem.2 ⟨j, by omega, rfl⟩))]
    rfl
  unfold State.noticeRecord
  rw [hfound]
  rfl

theorem noticeRecord_none (h : ∀ lv, s.offerable lv = false) : s.noticeRecord = none := by
  unfold State.noticeRecord
  rw [List.find?_eq_none.2 fun lv _ hlv => absurd ((h lv).symm.trans hlv) (by decide)]
  rfl

theorem buildItem_starting (h : s.device = .starting) : s.buildItem = .idle := by
  unfold State.buildItem
  rw [if_pos (by simp [h])]

theorem buildItem_reply (h : s.device ≠ .starting) {r : Reply} {rest : List Reply} (hr : s.replies = r :: rest) :
    s.buildItem = .reply r := by
  unfold State.buildItem
  rw [if_neg (by simpa using h), hr]

theorem buildItem_notice (h : s.device ≠ .starting) (hr : s.replies = []) : s.buildItem = s.noticeRecord.getD .idle := by
  unfold State.buildItem
  rw [if_neg (by simpa using h), hr]

end

theorem frame_length (f : Frame) : f.bytes.length = 3 + f.item.bytes.length + 2 := by
  unfold Frame.bytes
  simp
  omega

/-- The bytes of a frame go out in order, and 0x00 after them (R169). -/
theorem sent_getElem (f : Frame) {clocked i : Nat} (h : i < clocked) :
    (f.sent clocked)[i]? = some (if i < f.bytes.length then f.bytes.getD i 0 else 0) := by
  unfold Frame.sent
  rw [List.getElem?_append, List.length_take]
  by_cases hi : i < f.bytes.length
  · rw [if_pos (by omega), if_pos hi, List.getElem?_take_of_lt h, List.getD_eq_getElem?_getD, List.getElem?_eq_getElem hi]
    rfl
  · rw [if_neg (by omega), if_neg hi, List.getElem?_replicate, if_pos (by omega)]

/-- The state that FRAME_START leaves to the converter arbiter (R165, R169). -/
def State.framed (s : State) : State :=
  { s with dozing := false, frame := some { status := s.status, item := s.buildItem, toDeliver := true } }

theorem frameStart_eq (s : State) : s.frameStart = s.framed.settleConverter := rfl

/-- Settles O6. -/
theorem frameStartBuildsItem : Obligations.FrameStartBuildsItem := by
  intro s
  have hframe := settleConverter_frame s.framed
  have hbays := settleConverter_scheduled s.framed
  have hlanes := settleConverter_lane s.framed
  rw [← frameStart_eq] at hframe hbays hlanes
  refine ⟨s.frameStart, rfl, ?_⟩
  generalize s.frameStart = t at hframe hbays hlanes
  refine ⟨by rw [hframe]; rfl, ⟨s.buildItem, by rw [hframe]; rfl, buildItem_starting, fun h r rest hr => buildItem_reply h hr,
    fun h hr hno => ?_, fun h hr lv hlv hbefore => ?_⟩, ?_, hbays, hlanes, fun f clocked => ⟨Frame.length_sent f clocked, fun i hi => ?_⟩⟩
  · rw [buildItem_notice h hr, noticeRecord_none hno]
    rfl
  · rw [buildItem_notice h hr, noticeRecord_eq hlv hbefore]
    rfl
  · rw [hframe]
    rfl
  · rw [sent_getElem f hi, frame_length]
    rfl

/-! ### The delivery of an item (R162, R165, R169) -/

/-- A RESTART reply that ends the part (R189). -/
theorem endsPart_iff (r : Reply) : r.endsPart = true ↔ r.kind = 0x52 ∧ (r.result = .ok ∨ r.result = .partially) := by
  unfold Reply.endsPart
  simp only [Bool.and_eq_true, Bool.or_eq_true, beq_iff_eq]
  rfl

/-- A DOZE reply that begins doze (R165). -/
theorem beginsDoze_iff (r : Reply) : r.beginsDoze = true ↔ r.kind = 0x53 ∧ r.result = .ok := by
  unfold Reply.beginsDoze
  simp only [Bool.and_eq_true, beq_iff_eq]
  rfl

theorem clearPairs_latchOf (s : State) (pairs : List NoticePair) (site : Site) (k : Fin 13) :
    (pairs.foldl (fun t p => t.setLatch p.site p.kind none) s).latchOf site k =
      if ∃ p ∈ pairs, p.site = site ∧ p.kind = k then none else s.latchOf site k := by
  induction pairs generalizing s with
  | nil => simp
  | cons p ps ih =>
    rw [List.foldl_cons, ih, latchOf_setLatch]
    by_cases hp : p.site = site ∧ p.kind = k
    · simp [hp]
    · by_cases hps : ∃ q ∈ ps, q.site = site ∧ q.kind = k
      · rw [if_pos hps, if_pos]
        obtain ⟨q, hq, hsame⟩ := hps
        exact ⟨q, List.mem_cons_of_mem p hq, hsame⟩
      · rw [if_neg hps, if_neg hp, if_neg]
        rintro ⟨q, hq, hsame⟩
        obtain rfl | hq := List.mem_cons.1 hq
        · exact hp hsame
        · exact hps ⟨q, hq, hsame⟩

theorem deliverNotice_latchOf (s : State) (lv : Level) (pairs : List NoticePair) (site : Site) (k : Fin 13) :
    (s.deliverNotice lv pairs).latchOf site k =
      if ∃ p ∈ pairs, p.site = site ∧ p.kind = k then none else s.latchOf site k := clearPairs_latchOf s pairs site k

theorem deliverNotice_rest (s : State) (lv : Level) (pairs : List NoticePair) :
    (s.deliverNotice lv pairs).replies = s.replies ∧ (s.deliverNotice lv pairs).service[lv] = some pairs := by
  unfold State.deliverNotice
  dsimp only
  rw [clearPairs_frame]
  refine ⟨rfl, ?_⟩
  rw [get_put, if_pos rfl]

theorem deliverReply_ends (s : State) {r : Reply} (h : r.endsPart = true) :
    s.deliverReply r = coldStart { s with replies := s.replies.drop 1 } := by
  unfold State.deliverReply
  rw [if_pos h]

theorem deliverReply_stays (s : State) {r : Reply} (h : ¬r.endsPart = true) :
    s.deliverReply r = { s with replies := s.replies.drop 1, dozing := s.dozing || r.beginsDoze } := by
  unfold State.deliverReply
  rw [if_neg h]

section

variable {s : State} {f : Frame} {clocked : Nat}

theorem endFrame_cut (hf : s.frame = some f) (h : clocked < 3 + f.item.bytes.length + 2) : s.endFrame clocked = s := by
  unfold State.endFrame
  rw [hf]
  dsimp only
  rw [if_neg]
  simp only [Bool.and_eq_true, decide_eq_true_eq, not_and]
  omega

theorem endFrame_whole (hf : s.frame = some f) (ht : f.toDeliver = true) (h : 3 + f.item.bytes.length + 2 ≤ clocked) :
    s.endFrame clocked =
      (State.deliverItem { s with frame := some { f with toDeliver := false } } f.item).settleConverter := by
  unfold State.endFrame
  rw [hf]
  dsimp only
  rw [if_pos]
  simp [ht, h]

end

/-- Settles O7. -/
theorem itemDeliveryDelivers : Obligations.ItemDeliveryDelivers := by
  intro s f clocked hf ht
  refine ⟨fun h => congrArg Host.Outcome.next (endFrame_cut hf h), fun h => ?_⟩
  refine ⟨_, congrArg Host.Outcome.next (endFrame_whole hf ht h), ?_⟩
  generalize hv : ({ s with frame := some { f with toDeliver := false } } : State) = v
  have hreplies : v.replies = s.replies := by rw [← hv]
  have hlatches : v.latches = s.latches := by rw [← hv]
  have hservice : v.service = s.service := by rw [← hv]
  have hdozing : v.dozing = s.dozing := by rw [← hv]
  have hstore : v.store = s.store := by rw [← hv]
  have hsettled := settleConverter_frame (v.deliverItem f.item)
  generalize State.settleConverter (v.deliverItem f.item) = t at hsettled ⊢
  refine ⟨fun hi => ?_, fun r hi => ?_, fun lv pairs hi => ?_⟩
  · rw [hi] at hsettled
    rw [hsettled]
    exact ⟨hreplies, hlatches, hservice⟩
  · rw [hi] at hsettled
    change t = { v.deliverReply r with
      bays := t.bays, lanes := t.lanes, converter := t.converter, run := t.run } at hsettled
    by_cases hends : r.endsPart = true
    · rw [if_pos ((endsPart_iff r).1 hends), hsettled, deliverReply_ends v hends]
      exact ⟨rfl, rfl, rfl, hstore⟩
    · rw [if_neg (fun hc => hends ((endsPart_iff r).2 hc)), hsettled, deliverReply_stays v hends]
      refine ⟨congrArg (List.drop 1) hreplies, fun hdoze => ?_, fun hno => ?_, hlatches, hservice⟩
      · show (v.dozing || r.beginsDoze) = true
        rw [(beginsDoze_iff r).2 hdoze, Bool.or_true]
      · show (v.dozing || r.beginsDoze) = s.dozing
        rw [Bool.eq_false_iff.2 fun hc => hno ((beginsDoze_iff r).1 hc), Bool.or_false, hdozing]
  · rw [hi] at hsettled
    change t = { v.deliverNotice lv pairs with
      bays := t.bays, lanes := t.lanes, converter := t.converter, run := t.run } at hsettled
    obtain ⟨hr, hsv⟩ := deliverNotice_rest v lv pairs
    have hlatch : ∀ site k, t.latchOf site k = if ∃ p ∈ pairs, p.site = site ∧ p.kind = k then none else s.latchOf site k :=
      fun site k => by
        have hsame : v.latchOf site k = s.latchOf site k := by rw [State.latchOf, hlatches]; rfl
        rw [State.latchOf, hsettled, ← hsame, ← deliverNotice_latchOf v lv pairs site k]
        rfl
    refine ⟨?_, ?_, fun p hp => ?_, fun site k hno => ?_⟩
    · rw [hsettled]
      exact hr.trans hreplies
    · rw [hsettled]
      exact hsv
    · rw [hlatch, if_pos ⟨p, hp, rfl, rfl⟩]
    · rw [hlatch, if_neg]
      rintro ⟨p, hp, hsame⟩
      exact hno p hp hsame

end Sys2Proof.Machine

/-! The link reset: O8. -/

namespace Sys2Proof.Machine

/-! ### Levels that return to offerable (R167) -/

section

variable (s : State)

theorem latchPair_latchOf (site site' : Site) (k k' : Fin 13) (lv : Level) : (s.latchPair site k lv).latchOf site' k' =
    (s.latchOf site' k').or (if site = site' ∧ k = k' then some lv else none) := by
  by_cases hset : s.latchOf site k = none
  · rw [latchPair_of_clear lv hset, latchOf_setLatch]
    by_cases hsame : site = site' ∧ k = k'
    · rw [if_pos hsame, if_pos hsame, ← hsame.1, ← hsame.2, hset]
      rfl
    · rw [if_neg hsame, if_neg hsame, Option.or_none]
  · rw [latchPair_of_set lv hset]
    by_cases hsame : site = site' ∧ k = k'
    · obtain ⟨lv', hlv'⟩ := Option.ne_none_iff_exists'.1 hset
      rw [← hsame.1, ← hsame.2, hlv']
      rfl
    · rw [if_neg hsame, Option.or_none]

theorem relatch_latchOf (lv : Level) (pairs : List NoticePair) (site : Site) (k : Fin 13) :
    (pairs.foldl (fun t p => t.latchPair p.site p.kind lv) s).latchOf site k =
      (s.latchOf site k).or (if ∃ p ∈ pairs, p.site = site ∧ p.kind = k then some lv else none) := by
  induction pairs generalizing s with
  | nil => simp
  | cons p ps ih =>
    rw [List.foldl_cons, ih, latchPair_latchOf, Option.or_assoc]
    by_cases hp : p.site = site ∧ p.kind = k
    · have hmem : ∃ q ∈ p :: ps, q.site = site ∧ q.kind = k := ⟨p, List.mem_cons_self, hp⟩
      rw [if_pos hp, if_pos hmem, Option.some_or]
    · have hmem : (∃ q ∈ p :: ps, q.site = site ∧ q.kind = k) ↔ ∃ q ∈ ps, q.site = site ∧ q.kind = k := by simp [hp]
      rw [if_neg hp, Option.none_or]
      simp only [hmem]

/-- The level a pair has in service at a level, if it has (R160). -/
def State.servedAt (s : State) (site : Site) (k : Fin 13) (lv : Level) : Option Level :=
  (s.service[lv]).bind fun pairs => if ∃ p ∈ pairs, p.site = site ∧ p.kind = k then some lv else none

theorem restoreLevel_latchOf (lv : Level) (site : Site) (k : Fin 13) :
    (s.restoreLevel lv).latchOf site k = (s.latchOf site k).or (s.servedAt site k lv) := by
  unfold State.restoreLevel State.servedAt
  cases hs : s.service[lv] with
  | none => simp
  | some pairs => exact relatch_latchOf s lv pairs site k

theorem restoreLevel_service (lv m : Level) :
    (s.restoreLevel lv).service[m] = if m = lv then none else s.service[m] := by
  unfold State.restoreLevel
  cases hs : s.service[lv] with
  | none =>
    dsimp only
    split
    · next h => rw [h, hs]
    · rfl
  | some pairs =>
    dsimp only
    rw [get_put, relatch_frame]
    by_cases hm : lv = m
    · rw [if_pos hm, if_pos hm.symm]
    · rw [if_neg hm, if_neg (Ne.symm hm)]

theorem restoreLevel_servedAt {lv m : Level} (h : m ≠ lv) (site : Site) (k : Fin 13) :
    (s.restoreLevel lv).servedAt site k m = s.servedAt site k m := by
  unfold State.servedAt
  rw [restoreLevel_service, if_neg h]

theorem restoreService_eq : s.restoreService = (((s.restoreLevel 0).restoreLevel 1).restoreLevel 2).restoreLevel 3 := rfl

theorem restoreService_service (lv : Level) : s.restoreService.service[lv] = none := by
  rw [restoreService_eq]
  simp only [restoreLevel_service]
  match lv with
  | 0 => rfl
  | 1 => rfl
  | 2 => rfl
  | 3 => rfl

/-- A pair takes the most urgent of the levels at which it is in service, unless it is latched (log 19). -/
theorem restoreService_latchOf (site : Site) (k : Fin 13) : s.restoreService.latchOf site k =
    (s.latchOf site k).or ((s.servedAt site k 0).or ((s.servedAt site k 1).or ((s.servedAt site k 2).or (s.servedAt site k 3)))) := by
  rw [restoreService_eq, restoreLevel_latchOf, restoreLevel_latchOf, restoreLevel_latchOf, restoreLevel_latchOf,
    restoreLevel_servedAt _ (by decide), restoreLevel_servedAt _ (by decide), restoreLevel_servedAt _ (by decide),
    restoreLevel_servedAt _ (by decide), restoreLevel_servedAt _ (by decide), restoreLevel_servedAt _ (by decide)]
  simp only [Option.or_assoc]

end

section

variable {s : State} {site : Site} {k : Fin 13}

theorem servedAt_mem {lv : Level} {pairs : List NoticePair} (h : s.service[lv] = some pairs) {p : NoticePair} (hp : p ∈ pairs) :
    s.servedAt p.site p.kind lv = some lv := by
  unfold State.servedAt
  rw [h]
  exact if_pos ⟨p, hp, rfl, rfl⟩

theorem servedAt_none {lv : Level} (h : ∀ pairs, s.service[lv] = some pairs → ∀ p ∈ pairs, ¬(p.site = site ∧ p.kind = k)) :
    s.servedAt site k lv = none := by
  unfold State.servedAt
  cases hs : s.service[lv] with
  | none => simp
  | some pairs =>
    rw [Option.bind_some, if_neg]
    rintro ⟨p, hp, hsame⟩
    exact h pairs hs p hp hsame

theorem restoreService_latched {lv : Level} {pairs : List NoticePair} (h : s.service[lv] = some pairs) {p : NoticePair}
    (hp : p ∈ pairs) : s.restoreService.latchOf p.site p.kind ≠ none := by
  have hserved := servedAt_mem h hp
  rw [restoreService_latchOf]
  intro hnone
  simp only [Option.or_eq_none_iff] at hnone
  obtain ⟨-, h0, h1, h2, h3⟩ := hnone
  have hno : ∀ m : Level, s.servedAt p.site p.kind m = none := fun m => by
    match m with
    | 0 => exact h0
    | 1 => exact h1
    | 2 => exact h2
    | 3 => exact h3
  exact absurd ((hno lv).symm.trans hserved) (by simp)

theorem restoreService_takes_urgent {lv : Level} {pairs : List NoticePair} (h : s.service[lv] = some pairs) {p : NoticePair}
    (hp : p ∈ pairs) (hclear : s.latchOf p.site p.kind = none)
    (hfirst : ∀ m : Level, m < lv → ∀ others, s.service[m] = some others → p ∉ others) :
    s.restoreService.latchOf p.site p.kind = some lv := by
  have hserved := servedAt_mem h hp
  have hbefore : ∀ m : Level, m < lv → s.servedAt p.site p.kind m = none := fun m hm =>
    servedAt_none fun others hothers q hq hsame => hfirst m hm others hothers (by
      obtain ⟨site, kind⟩ := p
      obtain ⟨rfl, rfl⟩ := hsame
      exact hq)
  rw [restoreService_latchOf, hclear, Option.none_or]
  match lv, hserved, hbefore with
  | 0, hserved, _ => rw [hserved, Option.some_or]
  | 1, hserved, hbefore => rw [hbefore 0 (by decide), hserved, Option.none_or, Option.some_or]
  | 2, hserved, hbefore =>
    rw [hbefore 0 (by decide), hbefore 1 (by decide), hserved, Option.none_or, Option.none_or, Option.some_or]
  | 3, hserved, hbefore =>
    rw [hbefore 0 (by decide), hbefore 1 (by decide), hbefore 2 (by decide), hserved, Option.none_or, Option.none_or,
      Option.none_or]

theorem restoreService_keeps_set {lv : Level} (h : s.latchOf site k = some lv) : s.restoreService.latchOf site k = some lv := by
  rw [restoreService_latchOf, h, Option.some_or]

theorem restoreService_keeps_unserved
    (h : ∀ (lv : Level) pairs, s.service[lv] = some pairs → ∀ p ∈ pairs, ¬(p.site = site ∧ p.kind = k)) :
    s.restoreService.latchOf site k = s.latchOf site k := by
  rw [restoreService_latchOf, servedAt_none (h 0), servedAt_none (h 1), servedAt_none (h 2), servedAt_none (h 3)]
  simp only [Option.or_none]

end

/-! ### The reservations (R174) -/

theorem reservations_eq_zero {s : State} (hreq : s.requests = [])
    (hb : ∀ b rel, (s.bay b).release? = some rel → rel.reserved = false) (hw : ∀ w ∈ s.waiters, w.reserved = false)
    (hrun : ∀ r, s.run = some r → r.reserved = false) : s.reservations = 0 := by
  have hbays : (allBays.filter fun b => ((s.bay b).release?.map (·.reserved)).getD false) = [] :=
    List.filter_eq_nil_iff.2 fun b _ => by
      cases hrel : (s.bay b).release? with
      | none => simp
      | some rel => simp [hb b rel hrel]
  have hwaiters : s.waiters.filter (·.reserved) = [] := List.filter_eq_nil_iff.2 fun w hmem => by simp [hw w hmem]
  unfold State.reservations
  rw [hreq, hbays, hwaiters]
  cases hr : s.run with
  | none => rfl
  | some r => simp [hrun r hr]

theorem reservations_congr {s t : State} (hreq : t.requests = s.requests) (hb : t.bays = s.bays) (hw : t.waiters = s.waiters)
    (hrun : t.run = s.run) : t.reservations = s.reservations := by
  unfold State.reservations State.bay
  rw [hreq, hb, hw, hrun]

theorem release_dropReservation {r : BayRec} {rel : Release}
    (h : BayRec.release? { r with phase := r.phase.mapBinding Binding.dropReservation } = some rel) : rel.reserved = false := by
  unfold BayRec.release? at h
  dsimp only at h
  rw [binding_mapBinding] at h
  cases hbd : r.phase.binding? with
  | none => simp [hbd] at h
  | some bd =>
    rw [hbd] at h
    obtain ⟨x, -, rfl⟩ := Option.map_eq_some_iff.1 (show bd.commit.release.map _ = some rel from h)
    rfl

theorem dropReservations_bay (s : State) (b : Bay) :
    s.dropReservations.bay b = { s.bay b with phase := (s.bay b).phase.mapBinding Binding.dropReservation } :=
  bay_mapBays s b fun _ r => { r with phase := r.phase.mapBinding Binding.dropReservation }

theorem dropReservations_reservations (s : State) (h : s.requests = []) : s.dropReservations.reservations = 0 := by
  refine reservations_eq_zero h (fun b rel hrel => ?_) (fun w hw => ?_) (fun r hr => ?_)
  · rw [dropReservations_bay] at hrel
    exact release_dropReservation hrel
  · obtain ⟨x, -, rfl⟩ := List.mem_map.1 hw
    rfl
  · obtain ⟨x, -, rfl⟩ := Option.map_eq_some_iff.1 hr
    rfl

/-! ### LINK_RESET (R167, R174) -/

/-- Both queues empty, the frame's item and every reservation gone (R174). -/
def State.linkEmptied (s : State) : State :=
  State.dropReservations { s with requests := [], replies := [], frame := s.frame.map Frame.withdrawn }

section

variable {s : State}

theorem linkReset_starting (h : s.device = .starting) : s.linkReset = { s with status := .notReady } := by
  unfold State.linkReset State.outcome
  rw [if_pos (by simp [h]), if_pos (by simp [h])]

theorem linkReset_started (h : s.device ≠ .starting) : s.linkReset =
    if s.replies.any Reply.endsPart then coldStart (s.linkEmptied.restoreService.outcome .taken)
    else s.linkEmptied.restoreService.outcome .taken := by
  unfold State.linkReset
  rw [if_neg (by simpa using h)]
  rfl

theorem linkEmptied_frame (s : State) : s.linkEmptied =
    { s with
      requests := [], replies := [], frame := s.frame.map Frame.withdrawn, bays := s.linkEmptied.bays
      waiters := s.waiters.map fun w => { w with reserved := false }
      run := s.run.map fun r => { r with reserved := false } } := rfl

theorem linkEmptied_service (s : State) : s.linkEmptied.service = s.service := rfl

theorem linkEmptied_latchOf (s : State) (site : Site) (k : Fin 13) : s.linkEmptied.latchOf site k = s.latchOf site k := rfl

theorem restored_outcome (h : s.device ≠ .starting) : s.linkEmptied.restoreService.outcome .taken =
    { s.linkEmptied.restoreService with status := .taken } := by
  refine outcome_of_started ?_ .taken
  rw [restoreService_frame]
  exact h

end

/-- What a cold start keeps is all that it reads (R185). -/
theorem coldStart_congr {s t : State} (hpending : t.pending = s.pending) (hnow : t.now = s.now)
    (hdraws : t.nonceDraws = s.nonceDraws) (hstore : t.store = s.store) (honeWay : t.oneWay = s.oneWay)
    (hpfail : t.pfail = s.pfail) (hkeys : t.masterKeys = s.masterKeys) (hraw : t.raw = s.raw) : coldStart t = coldStart s := by
  unfold coldStart
  rw [hpending, hnow, hdraws, hstore, honeWay, hpfail, hkeys, hraw]

/-- Settles O8. -/
theorem linkResetEmptiesQueues : Obligations.LinkResetEmptiesQueues := by
  intro s
  have hends : s.replies.any Reply.endsPart = true ↔ ∃ r ∈ s.replies, r.kind = 0x52 ∧ (r.result = .ok ∨ r.result = .partially) := by
    simp only [List.any_eq_true, endsPart_iff]
  refine ⟨fun h => congrArg Host.Outcome.next (linkReset_starting h), fun h hno => ?_, fun h hyes => ?_⟩
  · have hnot : ¬s.replies.any Reply.endsPart = true := fun hc => by
      obtain ⟨r, hr, hbad⟩ := hends.1 hc
      exact hno r hr hbad
    have hexec : exec .linkReset s = .next { s.linkEmptied.restoreService with status := .taken } := by
      show Host.Outcome.next s.linkReset = _
      rw [linkReset_started h, if_neg hnot, restored_outcome h]
    have hframe := restoreService_frame s.linkEmptied
    have hreservations : s.linkEmptied.restoreService.reservations = 0 := by
      have hsame := reservations_congr (s := s.linkEmptied) (t := s.linkEmptied.restoreService) (by rw [hframe]) (by rw [hframe])
        (by rw [hframe]) (by rw [hframe])
      exact hsame.trans (dropReservations_reservations _ rfl)
    have hservice := restoreService_service s.linkEmptied
    have hlatched := @restoreService_latched s.linkEmptied
    have hurgent := @restoreService_takes_urgent s.linkEmptied
    have hset := @restoreService_keeps_set s.linkEmptied
    have hunserved := @restoreService_keeps_unserved s.linkEmptied
    simp only [linkEmptied_service, linkEmptied_latchOf] at hlatched hurgent hset hunserved
    refine ⟨_, hexec, ?_⟩
    generalize s.linkEmptied.restoreService = t at hframe hreservations hservice hlatched hurgent hset hunserved
    rw [linkEmptied_frame] at hframe
    refine ⟨by rw [hframe], by rw [hframe], hreservations, rfl, hservice,
      fun lv pairs hs p hp => hlatched hs hp, fun lv pairs hs p hp => hurgent hs hp, fun site k lv => hset,
      fun site k => hunserved,
      by rw [hframe]; rfl, ?_, by rw [hframe], by rw [hframe], fun b => ?_⟩
    · rw [hframe]
    · show t.bays[b] = _
      rw [hframe]
      exact dropReservations_bay _ b
  · have hexec : exec .linkReset s = .next (coldStart s) := by
      show Host.Outcome.next s.linkReset = _
      rw [linkReset_started h, if_pos (hends.2 hyes), restored_outcome h]
      have hframe := restoreService_frame s.linkEmptied
      generalize s.linkEmptied.restoreService = t at hframe
      exact congrArg Host.Outcome.next (coldStart_congr (s := s) (by rw [hframe]; rfl) (by rw [hframe]; rfl)
        (by rw [hframe]; rfl) (by rw [hframe]; rfl) (by rw [hframe]; rfl) (by rw [hframe]; rfl) (by rw [hframe]; rfl)
        (by rw [hframe]; rfl))
    exact ⟨hexec, _, hexec, rfl, rfl, rfl, rfl⟩

end Sys2Proof.Machine

/-! What releases, unbindings and abandonments leave of their bay, with O32, O33, O34 and O40. -/

namespace Sys2Proof.Machine

/-! ### Releases (R114 to R116) -/

/-- The reply of a release, where no link reset has taken its reservation (R174). -/
def Release.reply (rel : Release) (res : Result) : List Reply :=
  if rel.reserved then [{ ticket := rel.ticket, kind := 0x41, result := res, body := [] }] else []

theorem release_reply_reserved {rel : Release} (h : rel.reserved = true) (res : Result) :
    rel.reply res = [{ ticket := rel.ticket, kind := 0x41, result := res, body := [] }] := if_pos h

section

variable {s : State} {b : Bay} {bd : Binding}

theorem placeLong_release (s : State) (rel : Release) (res : Result) :
    (s.placeLong rel.reserved rel.ticket .bayRelease res []).replies = s.replies ++ rel.reply res := by
  unfold State.placeLong Release.reply
  split
  · rfl
  · exact (List.append_nil _).symm

theorem placeLong_bay (s : State) (r : Bool) (ticket : Byte) (k : ReqKind) (res : Result) (body : List Byte) (c : Bay) :
    (s.placeLong r ticket k res body).bay c = s.bay c := by
  rw [placeLong_frame]
  rfl

/-- The bay as a release leaves it, before its line is evaluated (R116, R122). -/
def State.releasedAs (s : State) (b : Bay) (bd : Binding) : State :=
  s.modBay b fun r =>
    { r with
      phase := .released (bd.toReleased ((s.bay b).staged.getD (s.bay b).thresholds)), slot := none
      thresholds := (s.bay b).staged.getD (s.bay b).thresholds, staged := none }

theorem completeRelease_eq (h : (s.bay b).phase = .active bd) (rel : Release) (res : Result) :
    s.completeRelease b rel res =
      (((s.releasedAs b bd).evalLine b).leftActive b false).placeLong rel.reserved rel.ticket .bayRelease res [] := by
  unfold State.completeRelease
  rw [active_of_phase h]
  rfl

/-- A released bay holds its binding written off, an empty slot and an inhibited line (R77, R115, R116). -/
theorem completeRelease_bay (h : (s.bay b).phase = .active bd) (rel : Release) (res : Result) :
    ((s.completeRelease b rel res).bay b).phase =
        .released (bd.toReleased ((s.bay b).staged.getD (s.bay b).thresholds)) ∧
      ((s.completeRelease b rel res).bay b).slot = none ∧ ((s.completeRelease b rel res).bay b).line = .inhibit := by
  have hphase : ((s.releasedAs b bd).bay b).phase =
      .released (bd.toReleased ((s.bay b).staged.getD (s.bay b).thresholds)) := by
    rw [State.releasedAs, bay_modBay_same]
  have hslot : ((s.releasedAs b bd).bay b).slot = none := by rw [State.releasedAs, bay_modBay_same]
  have htarget : (s.releasedAs b bd).target b = .inhibit :=
    target_closed (by rw [hphase]; rfl) (by rw [hphase]; exact fun _ _ => nofun)
  have hleft := leftActive_scheduled ((s.releasedAs b bd).evalLine b) b false b
  rw [completeRelease_eq h, placeLong_bay, hleft.phase, hleft.slot, hleft.line, evalLine_bay, htarget]
  exact ⟨hphase, hslot, rfl⟩

/-- A release touches neither table, writer nor latches. -/
theorem completeRelease_rest (s : State) (b : Bay) (rel : Release) (res : Result) :
    (s.completeRelease b rel res).table = s.table ∧ (s.completeRelease b rel res).writer = s.writer ∧
      (s.completeRelease b rel res).latches = s.latches := by
  unfold State.completeRelease
  split
  · exact ⟨rfl, rfl, rfl⟩
  · dsimp only
    rw [placeLong_frame, leftActive_frame]
    exact ⟨rfl, rfl, rfl⟩

/-- Without a survey run, a release places its reply alone (R115). -/
theorem completeRelease_replies (h : (s.bay b).phase = .active bd) (rel : Release) (res : Result) (hrun : s.run = none) :
    (s.completeRelease b rel res).replies = s.replies ++ rel.reply res := by
  rw [completeRelease_eq h, placeLong_release, leftActive_replies ((s.releasedAs b bd).evalLine b) b false hrun]
  rfl

/-- FINAL is placed and queued (R114). -/
theorem placeFinal_bay (h : (s.bay b).phase = .active bd) :
    (s.placeFinal b).bay b = { s.bay b with slot := some .final, phase := .active (bd.setCommit .queued) } := by
  have hphase : ((s.modBay b fun r => { r with slot := some .final }).bay b).phase = .active bd := by
    rw [bay_modBay_same]
    exact h
  rw [State.placeFinal, changeCommit_active hphase, bay_modBay_same]

end

/-! ### Unbindings (R16, R58, R59) -/

/-- The binding's use goes into its entry, which then names no bay, and the bay takes its next state (R58, R59). -/
def State.closeBinding (s : State) (b : Bay) (bd : Binding) (next : Phase) : State :=
  (s.flushTable (s.withEntry b fun e => { bd.shadow e with bay := none })).modBay b fun r =>
    { r with phase := next, thresholds := r.staged.getD r.thresholds, staged := none, counter := 0 }

/-- A release in progress is answered BAY_STATE (R118). -/
def State.answerRelease (s : State) (bd : Binding) : State :=
  match bd.commit.release with
  | some rel => s.placeLong rel.reserved rel.ticket .bayRelease .bayState []
  | none => s

/-- The line of a bay that has left its binding, and what follows at the channel if it was ACTIVE (R130, R139). -/
def State.leaveActive (s : State) (b : Bay) (wasActive removed : Bool) : State :=
  if wasActive then (s.evalLine b).leftActive b removed else s.evalLine b

/-- The reply that the unbinding of a bay gives to its release. -/
def Phase.releaseReplies (p : Phase) : List Reply :=
  ((p.binding?.bind (·.commit.release)).map (·.reply .bayState)).getD []

section

variable {s : State} {b : Bay} {bd : Binding}

theorem unbind_eq (h : (s.bay b).phase.binding? = some bd) (next : Phase) (removed : Bool) : s.unbind b next removed =
    ((s.closeBinding b bd next).answerRelease bd).leaveActive b (s.isActive b) removed := by
  unfold State.unbind
  rw [h]
  rfl

theorem closeBinding_bay (s : State) (b : Bay) (bd : Binding) (next : Phase) : (s.closeBinding b bd next).bay b =
    { s.bay b with
      phase := next, thresholds := (s.bay b).staged.getD (s.bay b).thresholds, staged := none, counter := 0 } := by
  unfold State.closeBinding
  rw [bay_modBay_same, flushTable_bay]

theorem closeBinding_rest (s : State) (b : Bay) (bd : Binding) (next : Phase) :
    (s.closeBinding b bd next).table = tableUnbound s.table b bd ∧ (s.closeBinding b bd next).latches = s.latches ∧
      (s.closeBinding b bd next).replies = s.replies ∧ (s.closeBinding b bd next).run = s.run := by
  unfold State.closeBinding
  rw [flushTable_frame]
  exact ⟨rfl, rfl, rfl, rfl⟩

theorem answerRelease_frame (s : State) (bd : Binding) :
    s.answerRelease bd = { s with replies := (s.answerRelease bd).replies } := by
  unfold State.answerRelease
  split
  · rw [placeLong_frame]
  · rfl

theorem answerRelease_replies (s : State) {p : Phase} (h : p.binding? = some bd) :
    (s.answerRelease bd).replies = s.replies ++ p.releaseReplies := by
  unfold State.answerRelease Phase.releaseReplies
  rw [h]
  cases hrel : bd.commit.release with
  | none => simp [hrel]
  | some rel =>
    rw [Option.bind_some, hrel]
    exact placeLong_release s rel .bayState

theorem leaveActive_scheduled (s : State) (b : Bay) (was removed : Bool) :
    SameButSchedule ((s.evalLine b).bay b) ((s.leaveActive b was removed).bay b) := by
  unfold State.leaveActive
  split
  · exact leftActive_scheduled _ b removed b
  · exact SameButSchedule.refl _

theorem leaveActive_rest (s : State) (b : Bay) (was removed : Bool) : (s.leaveActive b was removed).table = s.table ∧
    (s.leaveActive b was removed).latches = s.latches ∧
    (s.run = none → (s.leaveActive b was removed).replies = s.replies) := by
  unfold State.leaveActive
  split
  · refine ⟨?_, ?_, fun h => leftActive_replies _ b removed h⟩ <;> rw [leftActive_frame] <;> rfl
  · exact ⟨rfl, rfl, fun _ => rfl⟩

/-- The bay that an unbinding leaves: in its next state, with slot and filter as they were (R16). -/
theorem unbind_bay (h : (s.bay b).phase.binding? = some bd) (next : Phase) (removed : Bool) :
    ((s.unbind b next removed).bay b).phase = next ∧ ((s.unbind b next removed).bay b).slot = (s.bay b).slot ∧
      ((s.unbind b next removed).bay b).filter = (s.bay b).filter ∧
      (next.active? = none → (∀ reason d, next ≠ .rejected reason d) →
        ((s.unbind b next removed).bay b).line = .inhibit) := by
  have hanswered : ((s.closeBinding b bd next).answerRelease bd).bay b = (s.closeBinding b bd next).bay b := by
    rw [answerRelease_frame]
    rfl
  have hphase : (((s.closeBinding b bd next).answerRelease bd).bay b).phase = next := by
    rw [hanswered, closeBinding_bay]
  have hleft := leaveActive_scheduled ((s.closeBinding b bd next).answerRelease bd) b (s.isActive b) removed
  rw [unbind_eq h, hleft.phase, hleft.slot, hleft.filter, hleft.line, evalLine_bay]
  refine ⟨hphase, ?_, ?_, fun ha hr => ?_⟩
  · rw [hanswered, closeBinding_bay]
  · rw [hanswered, closeBinding_bay]
  · rw [target_closed (by rw [hphase]; exact ha) (by rw [hphase]; exact hr)]
    rfl

/-- What an unbinding writes, and what it replies without a survey run (R58, R59, R118). -/
theorem unbind_rest (h : (s.bay b).phase.binding? = some bd) (next : Phase) (removed : Bool) :
    (s.unbind b next removed).table = tableUnbound s.table b bd ∧ (s.unbind b next removed).latches = s.latches ∧
      (s.run = none → (s.unbind b next removed).replies = s.replies ++ (s.bay b).phase.releaseReplies) := by
  obtain ⟨htable, hlatches, hreplies, hrun⟩ := closeBinding_rest s b bd next
  obtain ⟨ht, hl, hr⟩ := leaveActive_rest ((s.closeBinding b bd next).answerRelease bd) b (s.isActive b) removed
  have hframe := answerRelease_frame (s.closeBinding b bd next) bd
  rw [unbind_eq h]
  refine ⟨ht.trans ?_, hl.trans ?_, fun h0 => (hr ?_).trans ?_⟩
  · rw [hframe]
    exact htable
  · rw [hframe]
    exact hlatches
  · rw [hframe]
    exact hrun.trans h0
  · rw [answerRelease_replies _ h, hreplies]

theorem releaseReplies_unbound {p : Phase} (h : p.binding? = none) : p.releaseReplies = [] := by
  unfold Phase.releaseReplies
  rw [h]
  rfl

end

/-! ### A bay that abandons its operation and leaves its state (R14, R15, R17, R18, R39) -/

/-- The operation of a bay's position is flagged abandoned (R39). -/
def Running.abandonedAt (b : Bay) (x : Running) : Running :=
  if x.position = positionOf b then { x with abandoned := true } else x

/-- From `s` to `t`, bay `b` has left its state for `next`, one without a line that allows: its slot is empty, its operation
abandoned, its binding closed, its release answered. -/
structure Leaves (s t : State) (b : Bay) (next : Phase) : Prop where
  phase : (t.bay b).phase = next
  slot : (t.bay b).slot = none
  line : (t.bay b).line = .inhibit
  filter : (t.bay b).filter = (s.bay b).filter
  others : OthersKept s t b
  core : CoreKept s t
  latches : t.latches = s.latches
  lane : (t.lane (laneOf b)).running = (s.lane (laneOf b)).running.map (Running.abandonedAt b)
  lanes : ∀ l, l ≠ laneOf b → t.lane l = s.lane l
  bound : ∀ bd, (s.bay b).phase.binding? = some bd → t.table = tableUnbound s.table b bd
  unbound : (s.bay b).phase.binding? = none → t.table = s.table
  replies : s.run = none → t.replies = s.replies ++ (s.bay b).phase.releaseReplies

section

variable (s : State) (b : Bay)

theorem abandon_bay : (s.abandon b).bay b = { s.bay b with slot := none } :=
  bay_modBay_same s b fun r => { r with slot := none }

theorem abandon_others {c : Bay} (h : c ≠ b) : (s.abandon b).bay c = s.bay c :=
  bay_modBay_other s h fun r => { r with slot := none }

theorem abandon_lane : ((s.abandon b).lane (laneOf b)).running =
    (s.lane (laneOf b)).running.map (Running.abandonedAt b) := by
  have h := lane_modLane_same (s.modBay b fun r => { r with slot := none }) (laneOf b) fun l =>
    { l with running := l.running.map fun r => if r.position = positionOf b then { r with abandoned := true } else r }
  exact congrArg LaneRec.running h

theorem abandon_lanes {l : Lane} (h : l ≠ laneOf b) : (s.abandon b).lane l = s.lane l :=
  lane_modLane_other (s.modBay b fun r => { r with slot := none }) h _

/-- A bay that abandons its operation and leaves its state (R14, R17, R18). -/
theorem abandon_leavePhase {next : Phase} (ha : next.active? = none) (hr : ∀ reason d, next ≠ .rejected reason d)
    (removed : Bool) : Leaves s ((s.abandon b).leavePhase b next removed) b next := by
  have hkept := leavePhase_on (s.abandon b) b next removed
  have habandon : CoreKept s (s.abandon b) := rfl
  have hothers : OthersKept s ((s.abandon b).leavePhase b next removed) b := fun c hc => by
    have h := hkept.others c hc
    rwa [abandon_others s b hc] at h
  have hlane := hkept.lane (laneOf b)
  have hlanes := fun l (hl : l ≠ laneOf b) => (hkept.lane l).trans (abandon_lanes s b hl)
  have hbinding : ((s.abandon b).bay b).phase.binding? = (s.bay b).phase.binding? := by rw [abandon_bay]
  have hreplies : ((s.abandon b).bay b).phase.releaseReplies = (s.bay b).phase.releaseReplies := by rw [abandon_bay]
  cases hbd : (s.bay b).phase.binding? with
  | some bd =>
    have hleave : (s.abandon b).leavePhase b next removed = (s.abandon b).unbind b next removed := by
      unfold State.leavePhase
      rw [hbinding.trans hbd]
    obtain ⟨hphase, hslot, hfilter, hline⟩ := unbind_bay (hbinding.trans hbd) next removed
    obtain ⟨htable, hlatches, hrep⟩ := unbind_rest (hbinding.trans hbd) next removed
    rw [hreplies] at hrep
    rw [← hleave] at hphase hslot hfilter hline htable hlatches hrep
    rw [abandon_bay] at hslot hfilter
    exact ⟨hphase, hslot, hline ha hr, hfilter, hothers, habandon.trans hkept.core, hlatches,
      by rw [hlane, abandon_lane], hlanes, fun bd' h' => by rw [← Option.some.inj (hbd.symm.trans h')]; exact htable,
      fun h' => absurd (hbd.symm.trans h') (by simp), hrep⟩
  | none =>
    have hleave : (s.abandon b).leavePhase b next removed = (s.abandon b).setPhase b next := by
      unfold State.leavePhase
      rw [hbinding.trans hbd]
    have hbay := setPhase_bay_closed (s.abandon b) b ha hr
    rw [← hleave, abandon_bay] at hbay
    have hsame : ((s.abandon b).leavePhase b next removed).table = s.table ∧
        ((s.abandon b).leavePhase b next removed).latches = s.latches ∧
        ((s.abandon b).leavePhase b next removed).replies = s.replies := by
      rw [hleave]
      exact ⟨setPhase_table _ b next, setPhase_latches _ b next, setPhase_replies _ b next⟩
    obtain ⟨htable, hlatches, hrep⟩ := hsame
    exact ⟨by rw [hbay], by rw [hbay], by rw [hbay], by rw [hbay], hothers, habandon.trans hkept.core, hlatches,
      by rw [hlane, abandon_lane], hlanes, fun bd' h' => absurd (hbd.symm.trans h') (by simp), fun _ => htable,
      fun _ => by rw [hrep, releaseReplies_unbound hbd, List.append_nil]⟩

end

namespace Leaves

variable {s t : State} {b : Bay} {next : Phase}

theorem abandoned (h : Leaves s t b next) {x : Running} (hx : (s.lane (laneOf b)).running = some x)
    (hp : x.position = positionOf b) : (t.lane (laneOf b)).running = some { x with abandoned := true } := by
  rw [h.lane, hx, Option.map_some]
  exact congrArg some (if_pos hp)

theorem release_replied (h : Leaves s t b next) {bd : Binding} {rel : Release} (hbd : (s.bay b).phase.binding? = some bd)
    (hrel : bd.commit.release = some rel) (hrun : s.run = none) : t.replies = s.replies ++ rel.reply .bayState := by
  rw [h.replies hrun]
  unfold Phase.releaseReplies
  rw [hbd, Option.bind_some, hrel]
  rfl

end Leaves

end Sys2Proof.Machine

/-! The requests on one bay and the presence inputs: O32, O33, O34 and O40. -/

namespace Sys2Proof.Machine

section

variable {s : State} {r : Request} {rest : List Request} {b : Bay}

/-! ### BAY_RECHECK (R17) -/

theorem exec_bayRecheck_bay (h : Taking s .bayRecheck r rest) (hb : r.body = toBytes 1 b.val) :
    exec .bayRecheck s = .next (if (s.bay b).phase.canRecheck then
      ((s.dequeued rest).recheck b).runArbiters.place (r.answer .ok [])
      else s.answered rest (r.answer .bayState [])) := by
  show Host.Outcome.next (s.take _ _) = _
  rw [take_taking h (by rw [hb, toBytes_length]; rfl), withBay_only hb]
  rfl

theorem canRecheck_iff (p : Phase) :
    p.canRecheck = true ↔ p.binding? ≠ none ∨ ∃ reason d, p = .rejected reason d := by
  cases p <;> simp [Phase.canRecheck, Phase.binding?]

/-- A recheck is the leaving for IDENTIFYING with IDENTIFY in the slot (R17). -/
theorem recheck_eq (s : State) (b : Bay) : s.recheck b =
    ((s.abandon b).leavePhase b .identifying false).modBay b fun x => { x with slot := some .identify } := rfl

end

/-- Settles O32. -/
theorem bayRecheckIdentifies : Obligations.BayRecheckIdentifies := by
  intro s r rest b h hb
  rw [exec_bayRecheck_bay h hb]
  refine ⟨fun hcan => ?_, fun hu hr => ?_⟩
  · rw [if_pos ((canRecheck_iff _).2 hcan)]
    refine ⟨_, rfl, ?_⟩
    have hleaves := abandon_leavePhase (s.dequeued rest) b (next := .identifying) rfl (fun _ _ => nofun) false
    rw [recheck_eq]
    generalize ((s.dequeued rest).abandon b).leavePhase b .identifying false = t at hleaves ⊢
    rw [bay_modBay_same]
    exact ⟨hleaves.phase, rfl, hleaves.line, hleaves.filter, hleaves.latches,
      fun c hc => by rw [bay_modBay_other t hc]; exact hleaves.others c hc,
      fun x hx hp => hleaves.abandoned hx hp, hleaves.bound, hleaves.unbound⟩
  · rw [if_neg]
    rw [canRecheck_iff]
    rintro (hc | ⟨reason, d, hc⟩)
    · exact hc hu
    · exact hr reason d hc

/-! ### BAY_RELEASE (R114) -/

section

variable {s : State} {r : Request} {rest : List Request} {b : Bay} {bd : Binding}

theorem exec_bayRelease_inactive (h : Taking s .bayRelease r rest) (hb : r.body = toBytes 1 b.val)
    (ha : (s.bay b).phase.active? = none) : exec .bayRelease s = .next (s.answered rest (r.answer .bayState [])) := by
  show Host.Outcome.next (s.take _ _) = _
  rw [take_taking h (by rw [hb, toBytes_length]; rfl), withBay_only hb, dequeued_bay, ha]
  rfl

theorem exec_bayRelease_active (h : Taking s .bayRelease r rest) (hb : r.body = toBytes 1 b.val)
    (ha : (s.bay b).phase = .active bd) : exec .bayRelease s = .next (if bd.commit.release.isSome then
      s.answered rest (r.answer .busy []) else
      ((s.dequeued rest).startRelease b bd { ticket := r.ticket, reserved := true }).runArbiters) := by
  show Host.Outcome.next (s.take _ _) = _
  rw [take_taking h (by rw [hb, toBytes_length]; rfl), withBay_only hb, dequeued_bay, active_of_phase ha]
  rfl

/-- The release is recorded (R114). -/
def State.releaseRecorded (s : State) (b : Bay) (rel : Release) : State :=
  s.modBinding b fun x => { x with commit := { x.commit with release := some rel } }

theorem releaseRecorded_bay (h : (s.bay b).phase = .active bd) (rel : Release) : (s.releaseRecorded b rel).bay b =
    { s.bay b with phase := .active { bd with commit := { bd.commit with release := some rel } } } :=
  modBinding_active h _

theorem startRelease_on (s : State) (b : Bay) (bd : Binding) (rel : Release) : ActsOn b s (s.startRelease b bd rel) := by
  have hrecorded : ActsOn b s (s.releaseRecorded b rel) := (modBinding_only s b _).actsOn
  unfold State.startRelease
  dsimp only
  split
  · split
    · exact hrecorded.trans (completeRelease_on _ b _ _)
    · exact hrecorded.trans (placeFinal_only _ b).actsOn
  · exact hrecorded.trans (modBay_only _ b _).actsOn
  · exact hrecorded
  · exact hrecorded
  · exact hrecorded.trans (completeRelease_on _ b _ _)
  · exact hrecorded.trans (completeRelease_on _ b _ _)

theorem startRelease_idle_empty (hstate : bd.commit.state = .idle) (hp : bd.acct.pending = 0) (rel : Release) :
    s.startRelease b bd rel = (s.releaseRecorded b rel).completeRelease b rel .ok := by
  unfold State.startRelease
  rw [hstate]
  exact if_pos hp

theorem startRelease_idle_pending (hstate : bd.commit.state = .idle) (hp : 0 < bd.acct.pending) (rel : Release) :
    s.startRelease b bd rel = (s.releaseRecorded b rel).placeFinal b := by
  unfold State.startRelease
  rw [hstate]
  exact if_neg (Nat.ne_of_gt hp)

theorem startRelease_queued (hstate : bd.commit.state = .queued) (rel : Release) :
    s.startRelease b bd rel = (s.releaseRecorded b rel).modBay b fun x => { x with slot := some .final } := by
  unfold State.startRelease
  rw [hstate]
  rfl

theorem startRelease_flying {T : Nat} {fin : Bool} (hstate : bd.commit.state = .inFlight T fin ∨ bd.commit.state = .reconciling T fin)
    (rel : Release) : s.startRelease b bd rel = s.releaseRecorded b rel := by
  unfold State.startRelease
  obtain hstate | hstate := hstate <;> rw [hstate] <;> rfl

theorem startRelease_halted {T : Nat} (hstate : bd.commit.state = .stopped ∨ bd.commit.state = .uncertain T) (rel : Release) :
    s.startRelease b bd rel = (s.releaseRecorded b rel).completeRelease b rel .commitUncertain := by
  unfold State.startRelease
  obtain hstate | hstate := hstate <;> rw [hstate] <;> rfl

end

/-- Settles O33: the release acts by the commit state it finds. -/
theorem bayReleaseByCommitState : Obligations.BayReleaseByCommitState := by
  intro s r rest b h hb
  refine ⟨exec_bayRelease_inactive h hb, fun bd ha => ⟨fun hrel => ?_, fun hrel => ?_⟩⟩
  · rw [exec_bayRelease_active h hb ha, if_pos (Option.isSome_iff_ne_none.2 hrel)]
  rw [exec_bayRelease_active h hb ha, if_neg (by simp [hrel])]
  generalize hr : ({ ticket := r.ticket, reserved := true } : Release) = rel
  have hbay := releaseRecorded_bay (s := s.dequeued rest) ha rel
  have hphase : (((s.dequeued rest).releaseRecorded b rel).bay b).phase =
      .active { bd with commit := { bd.commit with release := some rel } } := by rw [hbay]
  have hkind : (0x41 : Byte) = r.kind := h.2.2.symm
  have hreply : ∀ res, rel.reply res = [r.answer res []] := fun res => by
    rw [← hr, release_reply_reserved rfl, hkind]
    rfl
  refine ⟨_, rfl, (startRelease_on (s.dequeued rest) b bd rel).others, fun hstate hp => ?_, fun hstate hp => ?_, fun hstate => ?_,
    fun T fin hstate => ?_, fun T hstate => ?_⟩
  · rw [startRelease_idle_empty hstate hp]
    obtain ⟨hp', hslot, hline⟩ := completeRelease_bay hphase rel .ok
    refine ⟨⟨_, hp', hstate, rfl, rfl, rfl, rfl⟩, hslot, hline, fun hrun => ?_⟩
    rw [completeRelease_replies hphase rel .ok hrun, hreply]
    rfl
  · rw [startRelease_idle_pending hstate hp, placeFinal_bay hphase, (placeFinal_only _ b).replies]
    exact ⟨rfl, rfl, rfl⟩
  · rw [startRelease_queued hstate, bay_modBay_same]
    exact ⟨rfl, hphase, rfl⟩
  · rw [startRelease_flying hstate, hbay]
    exact ⟨rfl, rfl, rfl⟩
  · rw [startRelease_halted hstate]
    obtain ⟨hp', -, -⟩ := completeRelease_bay hphase rel .commitUncertain
    refine ⟨⟨_, hp', rfl, rfl, rfl⟩, fun hrun => ?_⟩
    rw [completeRelease_replies hphase rel .commitUncertain hrun, hreply]
    rfl

/-! ### BAY_DISABLE (R18, R166) -/

section

variable (s : State) (site : Site)

theorem clearSite_latchOf (site' : Site) (k : Fin 13) :
    (s.clearSite site).latchOf site' k = if site = site' then none else s.latchOf site' k := by
  unfold State.clearSite State.latchOf
  dsimp only
  rw [get_put]
  split
  · exact get_replicate _ k
  · rfl

theorem clearSite_service (lv : Level) : (s.clearSite site).service[lv] =
    s.service[lv].map fun pairs => pairs.filter fun p => p.site != site := by
  unfold State.clearSite
  dsimp only
  exact Vector.getElem_map _ _

end

section

variable {s : State} {r : Request} {rest : List Request} {b : Bay}

theorem exec_bayDisable_off (h : Taking s .bayDisable r rest) (hb : r.body = toBytes 1 b.val) (hoff : (s.bay b).phase = .off) :
    exec .bayDisable s = .next (s.answered rest (r.answer .ok [])) := by
  show Host.Outcome.next (s.take _ _) = _
  rw [take_taking h (by rw [hb, toBytes_length]; rfl), withBay_only hb, dequeued_bay, if_pos hoff]
  rfl

theorem exec_bayDisable_on (h : Taking s .bayDisable r rest) (hb : r.body = toBytes 1 b.val) (hoff : (s.bay b).phase ≠ .off) :
    exec .bayDisable s = .next ((((s.dequeued rest).turnOff b).modBayCfg b fun c =>
      { c with disabled := true }).settingsChanged.settleConverter.place (r.answer .ok [])) := by
  show Host.Outcome.next (s.take _ _) = _
  rw [take_taking h (by rw [hb, toBytes_length]; rfl), withBay_only hb, dequeued_bay, if_neg hoff]
  rfl

/-- The bay that has left for OFF, with its filter stopped and its site cleared (R18, R166). -/
theorem turnOff_eq (s : State) (b : Bay) : s.turnOff b =
    (((s.abandon b).leavePhase b .off false).modBay b fun x => { x with filter := Filter.stopped }).clearSite (baySite b) := rfl

theorem settingsChanged_rest (s : State) : s.settingsChanged.table = s.table ∧ s.settingsChanged.latches = s.latches ∧
    s.settingsChanged.service = s.service ∧ s.settingsChanged.lanes = s.lanes ∧ s.settingsChanged.replies = s.replies ∧
    s.settingsChanged.settings = s.settings := by
  rw [settingsChanged_frame]
  exact ⟨rfl, rfl, rfl, rfl, rfl, rfl⟩

theorem settleConverter_rest (s : State) : s.settleConverter.table = s.table ∧ s.settleConverter.latches = s.latches ∧
    s.settleConverter.service = s.service ∧ s.settleConverter.replies = s.replies ∧
    s.settleConverter.settings = s.settings := by
  rw [settleConverter_frame]
  exact ⟨rfl, rfl, rfl, rfl, rfl⟩

theorem settleConverter_running (s : State) (l : Lane) : (s.settleConverter.lane l).running = (s.lane l).running := by
  rw [settleConverter_lane]

/-- What a disabled bay and the settings leave, once the writer and the converter arbiter have acted (R18). -/
def State.disabledDone (s : State) (b : Bay) : State :=
  ((s.turnOff b).modBayCfg b fun c => { c with disabled := true }).settingsChanged.settleConverter

theorem disabledDone_rest (s : State) (b : Bay) : (s.disabledDone b).table = (s.turnOff b).table ∧
    (s.disabledDone b).latches = (s.turnOff b).latches ∧ (s.disabledDone b).service = (s.turnOff b).service ∧
    (s.disabledDone b).replies = (s.turnOff b).replies ∧
    (s.disabledDone b).settings = ((s.turnOff b).modBayCfg b fun c => { c with disabled := true }).settings := by
  obtain ⟨ht, hl, hs, -, hr, hset⟩ := settingsChanged_rest ((s.turnOff b).modBayCfg b fun c => { c with disabled := true })
  obtain ⟨ht', hl', hs', hr', hset'⟩ :=
    settleConverter_rest ((s.turnOff b).modBayCfg b fun c => { c with disabled := true }).settingsChanged
  exact ⟨ht'.trans ht, hl'.trans hl, hs'.trans hs, hr'.trans hr, hset'.trans hset⟩

theorem disabledDone_bay (s : State) (b c : Bay) : SameButSchedule ((s.turnOff b).bay c) ((s.disabledDone b).bay c) := by
  have h := settleConverter_scheduled ((s.turnOff b).modBayCfg b fun c => { c with disabled := true }).settingsChanged c
  rw [settingsChanged_bay] at h
  exact h

theorem disabledDone_running (s : State) (b : Bay) (l : Lane) :
    ((s.disabledDone b).lane l).running = ((s.turnOff b).lane l).running := by
  obtain ⟨-, -, -, hlanes, -⟩ := settingsChanged_rest ((s.turnOff b).modBayCfg b fun c => { c with disabled := true })
  refine (settleConverter_running _ l).trans ?_
  rw [State.lane, hlanes]
  rfl

theorem disabledDone_bayCfg (s : State) (b c : Bay) : (s.disabledDone b).bayCfg c =
    ((s.turnOff b).modBayCfg b fun c => { c with disabled := true }).bayCfg c := by
  obtain ⟨-, -, -, -, hset⟩ := disabledDone_rest s b
  rw [State.bayCfg, hset]
  rfl

/-- An unbound bay has no entry left (R59). -/
theorem mem_tableUnbound {table : List Entry} {b : Bay} {bd : Binding} {e : Entry} (h : e ∈ tableUnbound table b bd) :
    e.bay ≠ some b := by
  obtain ⟨e₀, -, rfl⟩ := List.mem_map.1 h
  split
  · simp
  · next hno => exact hno

/-! ### BAY_ENABLE (R19) -/

theorem exec_bayEnable_off (h : Taking s .bayEnable r rest) (hb : r.body = toBytes 1 b.val) (hoff : (s.bay b).phase = .off) :
    exec .bayEnable s = .next ((((s.dequeued rest).turnOn b).modBayCfg b fun c =>
      { c with disabled := false }).settingsChanged.place (r.answer .ok [])) := by
  show Host.Outcome.next (s.take _ _) = _
  rw [take_taking h (by rw [hb, toBytes_length]; rfl), withBay_only hb, dequeued_bay, if_pos hoff]
  rfl

theorem exec_bayEnable_on (h : Taking s .bayEnable r rest) (hb : r.body = toBytes 1 b.val) (hoff : (s.bay b).phase ≠ .off) :
    exec .bayEnable s = .next (s.answered rest (r.answer .bayState [])) := by
  show Host.Outcome.next (s.take _ _) = _
  rw [take_taking h (by rw [hb, toBytes_length]; rfl), withBay_only hb, dequeued_bay, if_neg hoff]
  rfl

theorem filter_start_eq (raw : Presence) : Filter.start raw =
    { level := .absent, window := if raw = .seated then some { level := .seated, ms := 0 } else none } := by
  cases raw <;> rfl

theorem turnOn_bay (s : State) (b : Bay) : (s.turnOn b).bay b =
    { s.bay b with phase := .vacant, slot := none, line := .inhibit, filter := Filter.start s.raw[b] } := by
  rw [State.turnOn, bay_modBay_same, setPhase_bay_closed s b (p := .vacant) rfl (fun _ _ => nofun)]

theorem turnOn_others (s : State) {b c : Bay} (h : c ≠ b) : (s.turnOn b).bay c = s.bay c := by
  rw [State.turnOn, bay_modBay_other _ h, (setPhase_only s b .vacant).others c h]

theorem turnOn_frame (s : State) (b : Bay) : s.turnOn b = { s with bays := (s.turnOn b).bays } := rfl

end

/-- What steps 1 to 5 of a disable leave (R18). -/
structure TurnsOff (s t : State) (b : Bay) : Prop where
  phase : (t.bay b).phase = .off
  slot : (t.bay b).slot = none
  line : (t.bay b).line = .inhibit
  filter : (t.bay b).filter = Filter.stopped
  others : OthersKept s t b
  settings : t.settings = s.settings
  latch : ∀ site k, t.latchOf site k = if baySite b = site then none else s.latchOf site k
  service : ∀ lv : Level, t.service[lv] = s.service[lv].map fun pairs => pairs.filter fun p => p.site != baySite b
  lane : (t.lane (laneOf b)).running = (s.lane (laneOf b)).running.map (Running.abandonedAt b)
  lanes : ∀ l, l ≠ laneOf b → t.lane l = s.lane l
  bound : ∀ bd, (s.bay b).phase.binding? = some bd → t.table = tableUnbound s.table b bd
  unbound : (s.bay b).phase.binding? = none → t.table = s.table
  replies : s.run = none → t.replies = s.replies ++ (s.bay b).phase.releaseReplies

theorem turnOff_turnsOff (s : State) (b : Bay) : TurnsOff s (s.turnOff b) b := by
  have h := abandon_leavePhase s b (next := .off) rfl (fun _ _ => nofun) false
  rw [turnOff_eq]
  generalize (s.abandon b).leavePhase b .off false = v at h ⊢
  generalize hu : (v.modBay b fun x => { x with filter := Filter.stopped }) = u
  have hbay : u.bay b = { v.bay b with filter := Filter.stopped } := by
    rw [← hu]
    exact bay_modBay_same v b fun x => { x with filter := Filter.stopped }
  have hothers : ∀ c, c ≠ b → u.bay c = v.bay c := fun c hc => by
    rw [← hu]
    exact bay_modBay_other v hc fun x => { x with filter := Filter.stopped }
  have hframe : u = { v with bays := u.bays } := by rw [← hu]; rfl
  have hlatch : ∀ site k, u.latchOf site k = s.latchOf site k := fun site k => by
    rw [State.latchOf, hframe]
    show v.latches[site][k] = _
    rw [h.latches]
    rfl
  have hservice : u.service = s.service := by rw [hframe]; exact h.core.service
  refine ⟨?_, ?_, ?_, ?_, fun c hc => ?_, ?_, fun site k => ?_, fun lv => ?_, ?_, fun l hl => ?_, fun bd hbd => ?_, fun hbd => ?_,
    fun hrun => ?_⟩
  · exact (congrArg BayRec.phase hbay).trans h.phase
  · exact (congrArg BayRec.slot hbay).trans h.slot
  · exact (congrArg BayRec.line hbay).trans h.line
  · exact congrArg BayRec.filter hbay
  · show SameButSchedule (s.bay c) (u.bay c)
    rw [hothers c hc]
    exact h.others c hc
  · show u.settings = _
    rw [hframe]
    exact h.core.settings
  · rw [clearSite_latchOf, hlatch]
  · rw [clearSite_service, hservice]
  · show (u.lanes[laneOf b]).running = _
    rw [hframe]
    exact h.lane
  · show u.lanes[l] = _
    rw [hframe]
    exact h.lanes l hl
  · show u.table = _
    rw [hframe]
    exact h.bound bd hbd
  · show u.table = _
    rw [hframe]
    exact h.unbound hbd
  · show u.replies = _
    rw [hframe]
    exact h.replies hrun

/-- Settles O34. -/
theorem bayDisabledAndEnabled : Obligations.BayDisabledAndEnabled := by
  intro s r rest b
  refine ⟨exec_bayDisable_off, fun h hb hoff => ?_, fun h hb hoff => ?_, exec_bayEnable_on⟩
  · have hturn := turnOff_turnsOff (s.dequeued rest) b
    obtain ⟨htable, hlatches, hservice, hreplies, -⟩ := disabledDone_rest (s.dequeued rest) b
    have hbay := disabledDone_bay (s.dequeued rest) b
    have hcfg := disabledDone_bayCfg (s.dequeued rest) b
    have hrunning := disabledDone_running (s.dequeued rest) b
    refine ⟨((s.dequeued rest).disabledDone b).place (r.answer .ok []), exec_bayDisable_on h hb hoff, ?_⟩
    generalize (s.dequeued rest).disabledDone b = t at htable hlatches hservice hreplies hbay hcfg hrunning ⊢
    generalize (s.dequeued rest).turnOff b = u at hturn htable hlatches hservice hreplies hbay hcfg hrunning
    have hlatch : ∀ site k, t.latchOf site k = if baySite b = site then none else s.latchOf site k := fun site k => by
      rw [State.latchOf, hlatches]
      exact hturn.latch site k
    have hbound : ∀ bd, (s.bay b).phase.binding? = some bd → t.table = tableUnbound s.table b bd := fun bd hbd =>
      htable.trans (hturn.bound bd hbd)
    have hunbound : (s.bay b).phase.binding? = none → t.table = s.table := fun hbd => htable.trans (hturn.unbound hbd)
    have hrep : s.run = none → t.replies = s.replies ++ (s.bay b).phase.releaseReplies := fun hrun =>
      hreplies.trans (hturn.replies hrun)
    refine ⟨(hbay b).phase.trans hturn.phase, (hbay b).slot.trans hturn.slot, (hbay b).line.trans hturn.line,
      (hbay b).filter.trans hturn.filter, ?_, fun k => ?_, fun site hsite k => ?_, fun lv => ?_, fun c hc => ?_, fun c hc => ?_,
      fun e he => ?_, hbound, hunbound, (hrunning _).trans hturn.lane, fun l hl => ?_, fun hrun hnone => ?_,
      fun hrun bd rel hbd hrel => ?_, ?_⟩
    · rw [place_bayCfg, hcfg, bayCfg_modBayCfg_same]
    · rw [place_latchOf, hlatch, if_pos rfl]
    · rw [place_latchOf, hlatch, if_neg (Ne.symm hsite)]
    · show t.service[lv] = _
      rw [hservice]
      exact hturn.service lv
    · exact (hturn.others c hc).trans (hbay c)
    · rw [place_bayCfg, hcfg, bayCfg_modBayCfg_other _ hc, State.bayCfg, hturn.settings]
      rfl
    · cases hbd : (s.bay b).phase.binding? with
      | none => exact .inr rfl
      | some bd =>
        change e ∈ t.table at he
        rw [hbound bd hbd] at he
        exact .inl (mem_tableUnbound he)
    · exact (hrunning l).trans (by rw [hturn.lanes l hl]; rfl)
    · show t.replies ++ _ = _
      rw [hrep hrun, Phase.releaseReplies, hnone]
      simp
    · show t.replies ++ _ = _
      rw [hrep hrun, Phase.releaseReplies, hbd, Option.bind_some, hrel]
      rfl
    · show (t.replies ++ _).getLast? = _
      exact List.getLast?_concat
  · have hon := turnOn_frame (s.dequeued rest) b
    have honbay := turnOn_bay (s.dequeued rest) b
    have hothers := fun c => turnOn_others (s.dequeued rest) (b := b) (c := c)
    refine ⟨_, exec_bayEnable_off h hb hoff, ?_⟩
    generalize (s.dequeued rest).turnOn b = u at hon honbay hothers ⊢
    have hsame := settingsChanged_frame (u.modBayCfg b fun c => { c with disabled := false })
    have hbays := settingsChanged_bay (u.modBayCfg b fun c => { c with disabled := false })
    have hcfg := settingsChanged_bayCfg (u.modBayCfg b fun c => { c with disabled := false })
    have hucfg : ∀ c, u.bayCfg c = s.bayCfg c := fun c => by
      rw [State.bayCfg, hon]
      rfl
    generalize (u.modBayCfg b fun c => { c with disabled := false }).settingsChanged = t at hsame hbays hcfg ⊢
    refine ⟨?_, ?_, ?_, fun c hc => ⟨?_, ?_⟩⟩
    · rw [hsame, hon]
      rfl
    · rw [place_bay, hbays, modBayCfg_bay, honbay, filter_start_eq]
      rfl
    · rw [place_bayCfg, hcfg, bayCfg_modBayCfg_same, hucfg]
    · rw [place_bay, hbays, modBayCfg_bay, hothers c hc]
      rfl
    · rw [place_bayCfg, hcfg, bayCfg_modBayCfg_other _ hc, hucfg]

end Sys2Proof.Machine

/-! The presence inputs: O40. -/

namespace Sys2Proof.Machine

section

variable {s : State} {b : Bay} {lv : Presence}

/-! ### RAW_PRESENCE_CHANGE (R7) -/

theorem exec_rawPresenceChange_same (h : s.raw[b] = lv) : exec (.rawPresenceChange b lv) s = .next s :=
  congrArg Host.Outcome.next (if_pos h)

theorem exec_rawPresenceChange_new (h : s.raw[b] ≠ lv) : exec (.rawPresenceChange b lv) s =
    .next (State.modBay { s with raw := put s.raw b lv } b fun r => r.rawChange lv) :=
  congrArg Host.Outcome.next (if_neg h)

theorem rawChange_off {r : BayRec} (h : r.phase = .off) : r.rawChange lv = r := if_pos h

theorem rawChange_on {r : BayRec} (h : r.phase ≠ .off) : r.rawChange lv = { r with
    filter := { level := r.filter.level, window := if lv = r.filter.level then none else some { level := lv, ms := 0 } } } :=
  if_neg h

/-! ### PRESENCE_WINDOW_EXPIRY (R7, R10, R14) -/

theorem exec_presenceWindowExpiry_early {w : Window} (h : (s.bay b).filter.window = some w) (hms : w.ms < windowLength w.level) :
    exec (.presenceWindowExpiry b) s = .next s := by
  show execPresenceWindowExpiry b s = _
  unfold execPresenceWindowExpiry
  rw [h]
  exact congrArg Host.Outcome.next (if_neg (Nat.not_le.2 hms))

theorem exec_presenceWindowExpiry_late {w : Window} (h : (s.bay b).filter.window = some w) (hms : windowLength w.level ≤ w.ms) :
    exec (.presenceWindowExpiry b) s = .next (s.closeWindow b w.level).runArbiters := by
  show execPresenceWindowExpiry b s = _
  unfold execPresenceWindowExpiry
  rw [h]
  exact congrArg Host.Outcome.next (if_pos hms)

/-- The filtered level takes the level of its window (R7). -/
def State.filtered (s : State) (b : Bay) (lv : Presence) : State :=
  s.modBay b fun r => { r with filter := { level := lv, window := none } }

theorem filtered_bay (s : State) (b : Bay) (lv : Presence) :
    (s.filtered b lv).bay b = { s.bay b with filter := { level := lv, window := none } } :=
  bay_modBay_same s b fun r => { r with filter := { level := lv, window := none } }

theorem filtered_others (s : State) (lv : Presence) {c : Bay} (hc : c ≠ b) : (s.filtered b lv).bay c = s.bay c :=
  bay_modBay_other s hc fun r => { r with filter := { level := lv, window := none } }

theorem closeWindow_eq (s : State) (b : Bay) (lv : Presence) : s.closeWindow b lv =
    if lv = .seated then (s.filtered b .seated).insertion b else (s.filtered b .absent).removal b := by
  cases lv <;> rfl

theorem insertion_vacant (h : (s.bay b).phase = .vacant) : s.insertion b =
    ((s.setPhase b .seated).modBay b fun r => { r with slot := some .identify }).latch (baySite b) .seated := if_pos h

theorem insertion_other (h : (s.bay b).phase ≠ .vacant) : s.insertion b = s := if_neg h

theorem removal_empty (h : (s.bay b).phase = .off ∨ (s.bay b).phase = .vacant) : s.removal b = s := if_pos h

theorem removal_full (h : (s.bay b).phase ≠ .off) (h' : (s.bay b).phase ≠ .vacant) : s.removal b =
    ((s.abandon b).leavePhase b .vacant true).latch (baySite b) .vacated := if_neg (not_or.2 ⟨h, h'⟩)

@[simp] theorem latch_table (s : State) (site : Site) (k : Kind) : (s.latch site k).table = s.table := by rw [latch_frame]

@[simp] theorem latch_replies (s : State) (site : Site) (k : Kind) : (s.latch site k).replies = s.replies := by
  rw [latch_frame]

theorem latch_lane (s : State) (site : Site) (k : Kind) (l : Lane) : (s.latch site k).lane l = s.lane l := by
  rw [latch_frame]
  rfl

/-- A VACANT bay at an insertion (R10). -/
theorem insertion_bay (h : (s.bay b).phase = .vacant) : (s.insertion b).bay b =
    { s.bay b with phase := .seated, line := .inhibit, slot := some .identify } := by
  rw [insertion_vacant h, latch_bay, bay_modBay_same, setPhase_bay_closed s b (p := .seated) rfl (fun _ _ => nofun)]

theorem insertion_only (s : State) (b : Bay) : ActsOnly b s (s.insertion b) := by
  unfold State.insertion
  split
  · exact (setPhase_only s b _).trans ((modBay_only _ b _).trans (latch_only _ b _ _))
  · exact ActsOnly.refl s

end

/-- A removal's bay, with all that it abandons and closes (R14). -/
theorem removal_leaves {s : State} {b : Bay} (h : (s.bay b).phase ≠ .off) (h' : (s.bay b).phase ≠ .vacant) :
    ∃ t : State, s.removal b = t.latch (baySite b) .vacated ∧ Leaves s t b .vacant :=
  ⟨_, removal_full h h', abandon_leavePhase s b (next := .vacant) rfl (fun _ _ => nofun) true⟩

/-- Settles O40. -/
theorem presenceFiltered : Obligations.PresenceFiltered := by
  refine ⟨fun s b lv => ⟨exec_rawPresenceChange_same, fun h => ?_⟩, fun s b lv ms h => ⟨fun hms => ?_, fun hms => ?_⟩⟩
  · refine ⟨_, exec_rawPresenceChange_new h, rfl, ?_, fun c hc => ⟨?_, bay_modBay_other _ hc _⟩, fun hoff => ?_, fun hoff => ?_⟩
    · show (put s.raw b lv)[b] = lv
      rw [get_put, if_pos rfl]
    · show (put s.raw b lv)[c] = s.raw[c]
      rw [get_put, if_neg (Ne.symm hc)]
    · rw [bay_modBay_same]
      exact rawChange_off hoff
    · rw [bay_modBay_same]
      exact rawChange_on hoff
  · exact exec_presenceWindowExpiry_early h (by rw [windowLength_eq]; exact hms)
  · refine ⟨_, exec_presenceWindowExpiry_late h (by rw [windowLength_eq]; exact hms), ?_⟩
    dsimp only
    have hfiltered := filtered_bay s b lv
    have hother : ∀ c, c ≠ b → (s.filtered b lv).bay c = s.bay c := fun c hc => filtered_others s lv hc
    rw [closeWindow_eq]
    cases lv with
    | seated =>
      rw [if_pos rfl]
      have honly := insertion_only (s.filtered b .seated) b
      refine ⟨?_, fun c hc => ?_, fun _ hv => ?_, fun hcase => ?_, fun habs => absurd habs (by decide)⟩
      · by_cases hv : ((s.filtered b .seated).bay b).phase = .vacant
        · rw [insertion_bay hv, hfiltered]
        · rw [insertion_other hv, hfiltered]
      · rw [honly.others c hc, hother c hc]
        exact SameButSchedule.refl _
      · have hv' : ((s.filtered b .seated).bay b).phase = .vacant := by rw [hfiltered]; exact hv
        rw [insertion_bay hv', honly.replies, insertion_vacant hv']
        exact ⟨rfl, rfl, rfl, latch_set _ _ _, latch_table _ _ _, rfl⟩
      · obtain ⟨-, hv⟩ | ⟨hbad, -⟩ := hcase
        · exact insertion_other (by rw [hfiltered]; exact hv)
        · exact absurd hbad (by decide)
    | absent =>
      rw [if_neg (by decide)]
      by_cases hempty : ((s.filtered b .absent).bay b).phase = .off ∨ ((s.filtered b .absent).bay b).phase = .vacant
      · rw [removal_empty hempty]
        rw [hfiltered] at hempty
        refine ⟨by rw [hfiltered], fun c hc => by rw [hother c hc]; exact SameButSchedule.refl _, fun hs => absurd hs (by decide),
          fun _ => rfl, fun _ hoff hv => ?_⟩
        obtain hempty | hempty := hempty
        · exact absurd hempty hoff
        · exact absurd hempty hv
      · obtain ⟨hoff, hv⟩ := not_or.1 hempty
        obtain ⟨t, ht, hleaves⟩ := removal_leaves hoff hv
        have hothers := hleaves.others
        have hreplied := fun bd rel => hleaves.release_replied (bd := bd) (rel := rel)
        have hfilter := hleaves.filter
        have hbound := hleaves.bound
        have hunbound := hleaves.unbound
        rw [hfiltered] at hfilter hbound hunbound hreplied hoff hv
        rw [ht, latch_bay, latch_table, latch_replies, latch_lane]
        refine ⟨hfilter, fun c hc => ?_, fun hs => absurd hs (by decide), fun hcase => ?_, fun _ _ _ =>
          ⟨hleaves.phase, hleaves.slot, hleaves.line, latch_set _ _ _, fun x hx hp => hleaves.abandoned hx hp, hbound, hunbound,
            fun bd rel hbd hrel hres hrun => ?_⟩⟩
        · have h' := hothers c hc
          rw [hother c hc] at h'
          rw [latch_bay]
          exact h'
        · obtain ⟨hbad, -⟩ | ⟨-, hcase⟩ := hcase
          · exact absurd hbad (by decide)
          · exact absurd hcase (not_or.2 ⟨hoff, hv⟩)
        · rw [hreplied bd rel hbd hrel hrun, release_reply_reserved hres]
          rfl

end Sys2Proof.Machine

/-! The ends of a lane's operations: O42. -/

namespace Sys2Proof.Machine

/-! ### The end of an operation (R12, R38) -/

section

variable (s : State) (l : Lane) (b : Bay)

/-- The lane as the owner of an ended operation finds it: its timer and operation nonce dropped (R38). -/
def State.laneEnded (s : State) (l : Lane) : State :=
  s.modLane l fun x => { x with running := x.running.map fun r => { r with timer := none, opNonce := none } }

theorem endOperation_eq (owner : State → State) : s.endOperation l owner = (owner (s.laneEnded l)).freeLane l := rfl

theorem laneEnded_lane {m : Lane} (h : m ≠ l) : (s.laneEnded l).lane m = s.lane m := lane_modLane_other s h _

/-- A latch touches its own pair alone (R157). -/
theorem latch_latchOf_other {site site' : Site} {k : Kind} {k' : Fin 13} (h : ¬(site' = site ∧ k' = k.code)) :
    (s.latch site k).latchOf site' k' = s.latchOf site' k' := by
  rw [State.latch, latchPair_latchOf, if_neg (fun h' => h ⟨h'.1.symm, h'.2.symm⟩), Option.or_none]

/-- The line of a REJECTED bay follows the reject mode (R127, R129). -/
theorem rejected_bay (reason : RejectReason) : (s.setPhase b (.rejected reason DrawFigures.zero)).bay b =
    { s.bay b with
      phase := .rejected reason DrawFigures.zero
      line := if s.device = .running ∧ s.policy.rejectMode = .allow then .allow else .inhibit } := by
  rw [setPhase_bay]
  have hphase : ((s.setPhase b (.rejected reason DrawFigures.zero)).bay b).phase = .rejected reason DrawFigures.zero := by
    rw [setPhase_bay]
  by_cases hd : s.device = .running
  · rw [target_running (s := s.setPhase b (.rejected reason DrawFigures.zero)) hd, hphase, phase_target_rejected, setPhase_policy]
    by_cases hm : s.policy.rejectMode = .allow
    · rw [if_pos hm, if_pos ⟨hd, hm⟩]
      rfl
    · rw [if_neg hm, if_neg (fun h => hm h.2)]
      rfl
  · rw [target_not_running (s := s.setPhase b (.rejected reason DrawFigures.zero)) hd, if_neg (fun h => hd h.1)]
    rfl

theorem enterRejected_bay (reason : RejectReason) : (s.enterRejected b reason).bay b =
    { s.bay b with
      phase := .rejected reason DrawFigures.zero
      line := if s.device = .running ∧ s.policy.rejectMode = .allow then .allow else .inhibit } := by
  rw [State.enterRejected, latch_bay, rejected_bay]

/-- An IDENTIFY that fails rejects its bay (R12, R35). -/
theorem failIdentify_rejects (reason : RejectReason) :
    ∃ t : State, s.failIdentify l b reason = t.freeLane l ∧ Rejects s t l b reason := by
  have honly := enterRejected_only (s.laneEnded l) b reason
  refine ⟨(s.laneEnded l).enterRejected b reason, rfl, ?_, enterRejected_bay (s.laneEnded l) b reason, honly.others,
    fun m hm => (honly.lane m).trans (laneEnded_lane s l hm), latch_set _ _ _, fun site k hk => latch_latchOf_other _ hk⟩
  unfold State.enterRejected
  rw [latch_frame]
  rfl

end

/-! ### Attempts that end with no reply (R27 to R30) -/

section

variable {s : State} {l : Lane} {x : Running} {b : Bay} {bd : Binding}

theorem noReply_readRecord_last (hstep : x.step = .readRecord) (ha : 3 ≤ x.attempt) :
    s.noReply l { x with timer := none } =
      s.failIdentify l (bayAt l x.position) (if x.badRecord then .recordInvalid else .noReply) := by
  unfold State.noReply
  dsimp only
  rw [hstep]
  exact if_neg (Nat.not_lt.2 ha)

theorem noReply_challenge_last (hstep : x.step = .challenge) (ha : 3 ≤ x.attempt) :
    s.noReply l { x with timer := none } = s.challengeNone l { x with timer := none } := by
  unfold State.noReply
  dsimp only
  rw [hstep]
  exact if_neg (Nat.not_lt.2 ha)

theorem noReply_advance (hstep : x.step = .advance) : s.noReply l { x with timer := none } =
    s.endOperation l fun t => t.lostAdvance (bayAt l x.position) := by
  unfold State.noReply
  dsimp only
  rw [hstep]

theorem challengeNone_identify (hop : x.op = .identify) :
    s.challengeNone l x = s.failIdentify l (bayAt l x.position) .noReply := by
  unfold State.challengeNone
  rw [hop]

theorem challengeNone_commit (hop : x.op ≠ .identify) :
    s.challengeNone l x = s.endOperation l fun t => t.flightUnknown (bayAt l x.position) := by
  unfold State.challengeNone
  cases hx : x.op with
  | identify => exact absurd hx hop
  | _ => rfl

/-- A lost advance goes to a RECONCILE (R109). -/
theorem lostAdvance_bay (h : (s.bay b).phase = .active bd) {T : Nat} {fin : Bool} (hstate : bd.commit.state = .inFlight T fin) :
    (s.lostAdvance b).bay b =
      { s.bay b with slot := some .reconcile, phase := .active (bd.setCommit (.reconciling T fin)) } ∧
    (s.lostAdvance b).latches = s.latches := by
  unfold State.lostAdvance
  rw [active_of_phase h]
  dsimp only
  rw [hstate]
  dsimp only
  have hphase : ((s.modBay b fun r => { r with slot := some .reconcile }).bay b).phase = .active bd := by
    rw [bay_modBay_same]
    exact h
  rw [changeCommit_active hphase, bay_modBay_same, changeCommit_latches]
  exact ⟨rfl, rfl⟩

/-- The unknown flight, before a release in progress acts on it (R105, R110). -/
def State.flightLost (s : State) (b : Bay) (T : Nat) : State :=
  (s.changeCommit b fun bd => bd.setCommit (.uncertain T)).latch (baySite b) .commitFault

theorem flightUnknown_eq (h : (s.bay b).phase = .active bd) {T : Nat} (ht : bd.commit.state.target? = some T) :
    s.flightUnknown b = (s.flightLost b T).afterHalt b := by
  unfold State.flightUnknown
  rw [active_of_phase h]
  dsimp only
  rw [ht]
  rfl

theorem flightLost_bay (h : (s.bay b).phase = .active bd) (T : Nat) :
    (s.flightLost b T).bay b = { s.bay b with phase := .active (bd.setCommit (.uncertain T)) } := by
  rw [State.flightLost, latch_bay, changeCommit_active h]

theorem flightLost_only (s : State) (b : Bay) (T : Nat) : ActsOnly b s (s.flightLost b T) :=
  (changeCommit_only s b _).trans (latch_only _ b _ _)

theorem afterHalt_without (h : (s.bay b).phase = .active bd) (hrel : bd.commit.release = none) : s.afterHalt b = s := by
  unfold State.afterHalt
  rw [active_of_phase h]
  dsimp only
  rw [hrel]

theorem afterHalt_release (h : (s.bay b).phase = .active bd) {rel : Release} (hrel : bd.commit.release = some rel) :
    s.afterHalt b = s.completeRelease b rel .commitUncertain := by
  unfold State.afterHalt
  rw [active_of_phase h]
  dsimp only
  rw [hrel]

end

/-- Settles O42. -/
theorem noReplyOutcomes : Obligations.NoReplyOutcomes := by
  intro s l x ms h ht hms hab
  have hexec : exec (.replyTimerExpiry l) s = .next (s.noReply l { x with timer := none }).settleConverter := by
    rw [exec_replyTimerExpiry, replyExpiry_late h ht hms, if_neg (by simp [hab])]
  rw [hexec]
  refine ⟨fun hstep ha => ?_, fun hstep ha hop => ?_, fun hstep ha hop bd T hact htarget => ?_,
    fun hstep bd T fin hact hstate => ?_⟩
  · rw [noReply_readRecord_last hstep ha]
    obtain ⟨t, heq, hrej⟩ := failIdentify_rejects s l (bayAt l x.position) (if x.badRecord then .recordInvalid else .noReply)
    exact ⟨t, by rw [heq], hrej⟩
  · rw [noReply_challenge_last hstep ha, challengeNone_identify (x := { x with timer := none }) hop]
    obtain ⟨t, heq, hrej⟩ := failIdentify_rejects s l (bayAt l x.position) .noReply
    exact ⟨t, by rw [heq], hrej⟩
  · rw [noReply_challenge_last hstep ha, challengeNone_commit (x := { x with timer := none }) hop, endOperation_eq]
    generalize bayAt l x.position = b at hact ⊢
    refine ⟨_, rfl, (flightUnknown_on (s.laneEnded l) b).others, ?_⟩
    have hbay := flightLost_bay (s := s.laneEnded l) hact T
    have hlost := flightLost_only (s.laneEnded l) b T
    have hlatched : ((s.laneEnded l).flightLost b T).latchOf (baySite b) Kind.commitFault.code ≠ none := latch_set _ _ _
    rw [flightUnknown_eq (s := s.laneEnded l) hact htarget]
    generalize (s.laneEnded l).flightLost b T = t at hbay hlost hlatched ⊢
    have hphase : (t.bay b).phase = .active (bd.setCommit (.uncertain T)) := by rw [hbay]
    refine ⟨(afterHalt_on t b).latched _ _ hlatched, fun hrel => ?_, fun rel hrel => ⟨?_, fun hres hrun => ?_⟩⟩
    · rw [afterHalt_without hphase hrel]
      exact ⟨hphase, by rw [hbay]; rfl, hlost.replies⟩
    · rw [afterHalt_release hphase hrel]
      exact ⟨_, (completeRelease_bay hphase rel .commitUncertain).1, rfl, rfl⟩
    · rw [afterHalt_release hphase hrel, completeRelease_replies hphase rel .commitUncertain (hlost.run.trans hrun),
        hlost.replies, release_reply_reserved hres]
      rfl
  · rw [noReply_advance hstep, endOperation_eq]
    generalize bayAt l x.position = b at hact ⊢
    obtain ⟨hbay, hlatches⟩ := lostAdvance_bay (s := s.laneEnded l) hact hstate
    have hlost := lostAdvance_only (s.laneEnded l) b
    exact ⟨_, rfl, hlost.actsOn.others, by rw [hbay], by rw [hbay]; rfl, hlatches, hlost.replies⟩

end Sys2Proof.Machine

/-! The replies of an IDENTIFY: O43 and O44. -/

namespace Sys2Proof.Machine

/-! ### Frames of a lane, read (R26, R183) -/

section

variable {p : Position} {tail : List Byte}

/-- A checked frame of the right length and position is well formed (R26). -/
theorem replyFrameOk_withCheck {step : TagStep} (hlen : tail.length + 2 = if step = .readRecord then 22 else 21) :
    replyFrameOk step p (withCheck (toBytes 1 p.val ++ tail)) = true := by
  refine replyFrameOk_iff.2 ⟨?_, ?_, ?_⟩
  · rw [← hlen]
    simp [withCheck]
    omega
  · rw [toBytes_one]
    rfl
  · unfold withCheck
    rw [List.getLast?_concat, List.dropLast_concat]

/-- A field behind the position byte. -/
theorem field_behind_position (start n : Nat) (q : Nat) : field (withCheck (toBytes 1 q ++ tail)) (1 + start) n =
    field (tail ++ [crc8 (toBytes 1 q ++ tail)]) start n := by
  have h := field_behind (toBytes 1 q) (tail ++ [crc8 (toBytes 1 q ++ tail)]) start n
  rw [toBytes_length, ← List.append_assoc] at h
  exact h

theorem counterReply_eq (c : Nat) (response : Key) :
    counterReply p c response = withCheck (toBytes 1 p.val ++ (toBytes 3 c ++ toBytes 16 response.toNat)) := by
  unfold counterReply
  rw [List.append_assoc]

theorem counterReply_frameOk {step : TagStep} (hstep : step ≠ .readRecord) (c : Nat) (response : Key) :
    replyFrameOk step p (counterReply p c response) = true := by
  rw [counterReply_eq]
  refine replyFrameOk_withCheck ?_
  rw [if_neg hstep, List.length_append, toBytes_length, toBytes_length]

theorem counterReply_counter {c : Nat} (hc : c < 2 ^ 24) (response : Key) : replyCounter (counterReply p c response) = c := by
  unfold replyCounter
  rw [counterReply_eq, field_behind_position 0 3, List.append_assoc, field_front]
  exact Nat.mod_eq_of_lt hc

theorem counterReply_response (c : Nat) (response : Key) : replyResponse (counterReply p c response) = response := by
  unfold replyResponse
  rw [counterReply_eq, field_behind_position 3 16, List.append_assoc, field_skip (toBytes_length 3 c) (le_refl 3),
    Nat.sub_self, field_front, Nat.mod_eq_of_lt (show response.toNat < 256 ^ 16 from response.isLt), BitVec.ofNat_toNat,
    BitVec.setWidth_eq]

end

/-! ### Authentic responses (R43) -/

section

variable {s : State} {l : Lane} {x : Running}

theorem authentic_iff {k : KeySlot} {serial : Serial} {n response : Key} {c : Nat} :
    s.authentic k serial n c response = true ↔
      ∃ master, s.masterKeys[k] = some master ∧ response = tagResponse master serial n c := by
  unfold State.authentic State.masterKey
  cases s.masterKeys[k] with
  | none => simp
  | some master =>
    simp only [beq_iff_eq, Option.some.injEq, exists_eq_left']
    rfl

/-- A reply that awaits its judgement in RUNNING (R26). -/
theorem tagReply_awaited (h : Awaiting s l x) {bytes : List Byte} (hf : replyFrameOk x.step x.position bytes = true) :
    exec (.tagReply l bytes) s = .next (s.judgeReply l { x with timer := none } bytes).settleConverter := by
  obtain ⟨hx, ht, ha⟩ := h
  rw [exec_tagReply, tagReply_wellFormed hx ht hf, if_neg (by simp [ha])]

theorem judgeReply_readRecord (hstep : x.step = .readRecord) (bytes : List Byte) :
    s.judgeReply l x bytes = s.recordReply l x bytes := by
  unfold State.judgeReply
  dsimp only
  rw [hstep]

theorem judgeReply_challenge (hstep : x.step = .challenge) (bytes : List Byte) : s.judgeReply l x bytes =
    if s.replyAuthentic l x x.nonce bytes then s.challengeCounter l x (replyCounter bytes) else s.challengeMismatch l x := by
  unfold State.judgeReply
  dsimp only
  rw [hstep]

theorem judgeReply_advance (hstep : x.step = .advance) (bytes : List Byte) : s.judgeReply l x bytes =
    if s.replyAuthentic l x x.opNonce bytes then
      s.endOperation l fun t => t.advanceCounter (bayAt l x.position) (replyCounter bytes)
    else s.endOperation l fun t => t.lostAdvance (bayAt l x.position) := by
  unfold State.judgeReply
  dsimp only
  rw [hstep]

/-- A counter reply is authentic when its response is the one that the judging identity gives (R29, R43). -/
theorem replyAuthentic_counterReply {k : KeySlot} {serial : Serial} {n response : Key} {c : Nat} (hc : c < 2 ^ 24)
    (hid : s.identityFor l x = some (k, serial)) : s.replyAuthentic l x (some n) (counterReply x.position c response) = true ↔
      ∃ master, s.masterKeys[k] = some master ∧ response = tagResponse master serial n c := by
  unfold State.replyAuthentic
  rw [hid]
  dsimp only
  rw [counterReply_counter hc, counterReply_response, authentic_iff]

theorem identityFor_identify {rec' : TagRecord} {k : KeySlot} (hop : x.op = .identify) (hrec : x.record = some rec')
    (hk : rec'.keyIndex = k.val) : s.identityFor l x = some (k, rec'.serial) := by
  unfold State.identityFor
  rw [hop]
  dsimp only
  rw [hrec]
  dsimp only
  rw [hk, keySlotOf_val]
  rfl

end

/-! ### Records (R28, R45, R46) -/

section

variable {s : State} {l : Lane} {x : Running} {bytes : List Byte}

theorem recordReply_unchecked_again (h : recordCheckOk bytes = false) (ha : x.attempt < 3) :
    s.recordReply l x bytes = s.sendReadRecord l { x with badRecord := true } (x.attempt + 1) := by
  unfold State.recordReply
  dsimp only
  rw [if_neg (by simp [h]), if_pos (show x.attempt < maxAttempts from ha)]

theorem recordReply_unchecked_last (h : recordCheckOk bytes = false) (ha : 3 ≤ x.attempt) :
    s.recordReply l x bytes = s.failIdentify l (bayAt l x.position) .recordInvalid := by
  unfold State.recordReply
  dsimp only
  rw [if_neg (by simp [h]), if_neg (show ¬x.attempt < maxAttempts from Nat.not_lt.2 ha)]

theorem recordReply_faulty (h : recordCheckOk bytes = true) {reason : RejectReason}
    (hf : s.recordFault (TagRecord.parse bytes) = some reason) :
    s.recordReply l x bytes = s.failIdentify l (bayAt l x.position) reason := by
  unfold State.recordReply
  dsimp only
  rw [if_pos h, hf]

theorem recordReply_good (h : recordCheckOk bytes = true) (hf : s.recordFault (TagRecord.parse bytes) = none) :
    s.recordReply l x bytes = s.sendChallenge l { x with record := some (TagRecord.parse bytes) } 1 := by
  unfold State.recordReply
  dsimp only
  rw [if_pos h, hf]

theorem recordFault_invalid {rec' : TagRecord}
    (h : 7 < rec'.keyIndex ∨ rec'.capacity = 0 ∨ ∀ k : KeySlot, k.val = rec'.keyIndex → s.masterKeys[k] = none) :
    s.recordFault rec' = some .recordInvalid := by
  unfold State.recordFault
  by_cases hk : 7 < rec'.keyIndex
  · rw [keySlotOf_above hk]
  · obtain ⟨k, hk'⟩ : ∃ k : KeySlot, k.val = rec'.keyIndex := ⟨⟨rec'.keyIndex, by omega⟩, rfl⟩
    rw [← hk', keySlotOf_val]
    dsimp only
    rw [if_pos]
    obtain h | h | h := h
    · exact absurd h hk
    · simp [h]
    · simp [State.masterKey, h k hk']

theorem recordFault_slot {rec' : TagRecord} {k : KeySlot} (hk : k.val = rec'.keyIndex) (hc : rec'.capacity ≠ 0)
    (hm : s.masterKeys[k] ≠ none) :
    s.recordFault rec' = if s.policy.allowed.getLsbD k.val then none else some .keyRevoked := by
  have hslot : keySlotOf? rec'.keyIndex = some k := by rw [← hk, keySlotOf_val]
  unfold State.recordFault
  rw [hslot]
  dsimp only
  rw [if_neg]
  · cases s.policy.allowed.getLsbD k.val <;> rfl
  · simp only [Bool.or_eq_true, beq_iff_eq, Option.isNone_iff_eq_none]
    exact not_or.2 ⟨hc, hm⟩

end

/-- The 19 record bytes that the record check covers (R183). -/
def recordBytes (serial : Serial) (product : Code) (capacity counter key week : Nat) : List Byte :=
  toBytes 8 serial.toNat ++ toBytes 2 product.toNat ++ toBytes 3 capacity ++ toBytes 3 counter ++ toBytes 1 key ++
    toBytes 2 week

section

variable {p : Position} {serial : Serial} {product : Code} {capacity counter key week : Nat} {check : Byte}

theorem recordBytes_length : (recordBytes serial product capacity counter key week).length = 19 := by
  simp [recordBytes]

/-- A READ_RECORD reply (R183). -/
def recordReplyBytes (p : Position) (record : List Byte) (check : Byte) : List Byte :=
  withCheck (toBytes 1 p.val ++ record ++ [check])

theorem recordReplyBytes_eq (record : List Byte) :
    recordReplyBytes p record check = withCheck (toBytes 1 p.val ++ (record ++ [check])) := by
  unfold recordReplyBytes
  rw [List.append_assoc]

theorem recordReplyBytes_frameOk {record : List Byte} (h : record.length = 19) :
    replyFrameOk .readRecord p (recordReplyBytes p record check) = true := by
  rw [recordReplyBytes_eq]
  exact replyFrameOk_withCheck (by rw [List.length_append, h]; rfl)

/-- The record check of a reply covers its record bytes (R28). -/
theorem recordCheckOk_recordReply {record : List Byte} (h : record.length = 19) :
    recordCheckOk (recordReplyBytes p record check) = (check == crc8 record) := by
  have hcheck : field (recordReplyBytes p record check) 20 1 = check.toNat := by
    rw [recordReplyBytes_eq, field_behind_position 19 1, List.append_assoc, field_skip h (le_refl 19), Nat.sub_self]
    simp [field, ofBytes]
  have hrecord : ((recordReplyBytes p record check).drop 1).take 19 = record := by
    rw [recordReplyBytes_eq, withCheck, toBytes_one, ← h]
    simp
  unfold recordCheckOk
  rw [hcheck, hrecord, Bool.eq_iff_iff, beq_iff_eq, beq_iff_eq, BitVec.toNat_inj]

/-- The fields of a record are read as they were laid out (R183). -/
theorem parse_recordReply (hcap : capacity < 2 ^ 24) (hcount : counter < 2 ^ 24) (hkey : key < 256) (hweek : week < 65536) :
    TagRecord.parse (recordReplyBytes p (recordBytes serial product capacity counter key week) check) =
      { serial := serial, product := product, capacity := capacity, counter := counter, keyIndex := key, fillWeek := week } := by
  have hlen : ∀ n v, (toBytes n v).length = n := toBytes_length
  unfold TagRecord.parse recordBytes
  rw [recordReplyBytes_eq, field_behind_position 0 8, field_behind_position 8 2, field_behind_position 10 3,
    field_behind_position 13 3, field_behind_position 16 1, field_behind_position 17 2]
  simp only [List.append_assoc]
  simp only [field_skip (hlen 8 _) (show 8 ≤ 8 by decide), field_skip (hlen 8 _) (show 8 ≤ 10 by decide),
    field_skip (hlen 8 _) (show 8 ≤ 13 by decide), field_skip (hlen 8 _) (show 8 ≤ 16 by decide),
    field_skip (hlen 8 _) (show 8 ≤ 17 by decide), Nat.reduceSub]
  simp only [field_skip (hlen 2 _) (show 2 ≤ 2 by decide), field_skip (hlen 2 _) (show 2 ≤ 5 by decide),
    field_skip (hlen 2 _) (show 2 ≤ 8 by decide), field_skip (hlen 2 _) (show 2 ≤ 9 by decide), Nat.reduceSub]
  simp only [field_skip (hlen 3 _) (show 3 ≤ 3 by decide), field_skip (hlen 3 _) (show 3 ≤ 6 by decide),
    field_skip (hlen 3 _) (show 3 ≤ 7 by decide), field_skip (hlen 3 _) (show 3 ≤ 4 by decide), Nat.reduceSub]
  simp only [field_skip (hlen 1 _) (show 1 ≤ 1 by decide), Nat.reduceSub, field_front]
  rw [Nat.mod_eq_of_lt (show serial.toNat < 256 ^ 8 from serial.isLt), Nat.mod_eq_of_lt (show product.toNat < 256 ^ 2 from product.isLt),
    Nat.mod_eq_of_lt (show capacity < 256 ^ 3 from hcap), Nat.mod_eq_of_lt (show counter < 256 ^ 3 from hcount),
    Nat.mod_eq_of_lt (show key < 256 ^ 1 from hkey), Nat.mod_eq_of_lt (show week < 256 ^ 2 from hweek)]
  simp

end

/-- Settles O43. -/
theorem recordReplyJudged : Obligations.RecordReplyJudged := by
  intro s l x serial product capacity counter key week haw hstep hcap hcount hkey hweek
  dsimp only
  have hlen : (recordBytes serial product capacity counter key week).length = 19 := recordBytes_length
  have hexec : ∀ check, exec (.tagReply l (recordReplyBytes x.position (recordBytes serial product capacity counter key week) check)) s =
      .next (s.recordReply l { x with timer := none }
        (recordReplyBytes x.position (recordBytes serial product capacity counter key week) check)).settleConverter := fun check => by
    rw [tagReply_awaited haw (by rw [hstep]; exact recordReplyBytes_frameOk hlen),
      judgeReply_readRecord (x := { x with timer := none }) hstep]
  have hparse : ∀ check, TagRecord.parse (recordReplyBytes x.position (recordBytes serial product capacity counter key week) check) =
      { serial := serial, product := product, capacity := capacity, counter := counter, keyIndex := key, fillWeek := week } :=
    fun check => parse_recordReply hcap hcount hkey hweek
  have hbad : ∀ check, check ≠ crc8 (recordBytes serial product capacity counter key week) →
      recordCheckOk (recordReplyBytes x.position (recordBytes serial product capacity counter key week) check) = false :=
    fun check hne => by rw [recordCheckOk_recordReply hlen]; simpa using hne
  have hgood : recordCheckOk (recordReplyBytes x.position (recordBytes serial product capacity counter key week)
      (crc8 (recordBytes serial product capacity counter key week))) = true := by
    rw [recordCheckOk_recordReply hlen]
    simp
  refine ⟨fun check hne ha => ?_, fun check hne ha => ?_, fun hinvalid => ?_, fun k hk hc hm => ⟨fun hno => ?_, fun hyes => ?_⟩⟩
  · refine (hexec check).trans ?_
    rw [recordReply_unchecked_again (x := { x with timer := none }) (hbad check hne) ha]
    obtain ⟨position, op, step, attempt, abandoned, opNonce, timer, nonce, record, badRecord, command⟩ := x
    obtain rfl : step = .readRecord := hstep
    rfl
  · obtain ⟨t, heq, hrej⟩ := failIdentify_rejects s l (bayAt l x.position) .recordInvalid
    refine ⟨t, (hexec check).trans ?_, hrej⟩
    rw [recordReply_unchecked_last (x := { x with timer := none }) (hbad check hne) ha, heq]
  · obtain ⟨t, heq, hrej⟩ := failIdentify_rejects s l (bayAt l x.position) .recordInvalid
    refine ⟨t, (hexec (crc8 (recordBytes serial product capacity counter key week))).trans ?_, hrej⟩
    rw [recordReply_faulty (x := { x with timer := none }) hgood (by rw [hparse]; exact recordFault_invalid hinvalid), heq]
  · obtain ⟨t, heq, hrej⟩ := failIdentify_rejects s l (bayAt l x.position) .keyRevoked
    refine ⟨t, (hexec (crc8 (recordBytes serial product capacity counter key week))).trans ?_, hrej⟩
    rw [recordReply_faulty (x := { x with timer := none }) hgood
      (by rw [hparse, recordFault_slot (k := k) hk hc hm, if_neg (by rw [hno]; decide)]), heq]
  · refine (hexec (crc8 (recordBytes serial product capacity counter key week))).trans ?_
    rw [recordReply_good (x := { x with timer := none }) hgood
      (by rw [hparse, recordFault_slot (k := k) hk hc hm, if_pos hyes]), hparse]
    rfl

end Sys2Proof.Machine

/-! The challenge of an IDENTIFY: O44. -/

namespace Sys2Proof.Machine

/-- The bays before one in the search. -/
theorem allBays_below : ∀ b : Bay, allBays[b.val]? = some b ∧ ∀ c ∈ allBays.take b.val, c < b := by decide

/-- The bays are searched in ascending order. -/
theorem find_allBays {f : Bay → Bool} {h : Bay} (hf : f h = true) (hbefore : ∀ j, j < h → f j = false) :
    allBays.find? f = some h := by
  obtain ⟨hl, hlower⟩ := allBays_below h
  obtain ⟨hlen, hget⟩ := List.getElem?_eq_some_iff.1 hl
  refine List.find?_eq_some_iff_getElem.2 ⟨hf, h.val, hlen, hget, fun j hj => ?_⟩
  rw [hbefore _ (hlower _ (List.mem_take_iff_getElem.2 ⟨j, by omega, rfl⟩))]
  rfl

section

variable {s : State} {l : Lane} {x : Running} {b : Bay} {rec' : TagRecord} {c : Nat}

/-! ### The holder of a serial (R48) -/

/-- Whether a bay is another one bound with a serial (R48). -/
theorem holds_iff {j : Bay} {serial : Serial} :
    (j != b && ((s.bay j).phase.binding?.map (·.serial)) == some serial) = true ↔
      j ≠ b ∧ ∃ bd, (s.bay j).phase.binding? = some bd ∧ bd.serial = serial := by
  simp only [Bool.and_eq_true, bne_iff_ne, beq_iff_eq, Option.map_eq_some_iff]

theorem holder_eq {h : Bay} {bd : Binding} {serial : Serial} (hne : h ≠ b) (hbd : (s.bay h).phase.binding? = some bd)
    (hserial : bd.serial = serial)
    (hfirst : ∀ j, j < h → j ≠ b → ∀ bd', (s.bay j).phase.binding? = some bd' → bd'.serial ≠ serial) :
    s.holder b serial = some h := by
  refine find_allBays (holds_iff.2 ⟨hne, bd, hbd, hserial⟩) fun j hj => ?_
  rw [← Bool.not_eq_true, holds_iff]
  rintro ⟨hjb, bd', hbd', hs⟩
  exact hfirst j hj hjb bd' hbd' hs

theorem holder_none {serial : Serial}
    (h : ∀ j bd, j ≠ b → (s.bay j).phase.binding? = some bd → bd.serial ≠ serial) : s.holder b serial = none :=
  List.find?_eq_none.2 fun j _ hj => by
    obtain ⟨hjb, bd, hbd, hs⟩ := holds_iff.1 hj
    exact h j bd hjb hbd hs

theorem fits_iff {slotCode product : Code} : fits slotCode product = true ↔ slotCode = 0xFFFF ∨ slotCode = product := by
  unfold fits
  simp only [Bool.or_eq_true, beq_iff_eq]

/-! ### The checks at the end of an IDENTIFY (R47, R48) -/

theorem identified_misfit (h : (s.bayCfg b).slotCode ≠ 0xFFFF) (h' : (s.bayCfg b).slotCode ≠ rec'.product) :
    s.identified b rec' c = s.enterRejected b .wrongInk := by
  have hno : fits (s.bayCfg b).slotCode rec'.product = false := by
    rw [← Bool.not_eq_true, fits_iff]
    exact not_or.2 ⟨h, h'⟩
  unfold State.identified
  rw [hno]
  rfl

/-- The holder's entry is marked and it is notified (R48). -/
def State.duplicateFound (s : State) (b h : Bay) : State :=
  ((s.enterRejected b .duplicateSerial).flushTable
    ((s.enterRejected b .duplicateSerial).withEntry h fun e => { e with cloneSeen := true })).latch (baySite h) .duplicate

theorem identified_duplicate (hfit : (s.bayCfg b).slotCode = 0xFFFF ∨ (s.bayCfg b).slotCode = rec'.product) {h : Bay}
    (hh : s.holder b rec'.serial = some h) : s.identified b rec' c = s.duplicateFound b h := by
  unfold State.identified
  rw [fits_iff.2 hfit, hh]
  rfl

theorem identified_binds (hfit : (s.bayCfg b).slotCode = 0xFFFF ∨ (s.bayCfg b).slotCode = rec'.product)
    (hh : s.holder b rec'.serial = none) {k : KeySlot} (hk : rec'.keyIndex = k.val) :
    s.identified b rec' c = s.bind b rec' k c := by
  unfold State.identified
  rw [fits_iff.2 hfit, hh, hk, keySlotOf_val]
  rfl

theorem challengeMismatch_identify (hop : x.op = .identify) :
    s.challengeMismatch l x = s.failIdentify l (bayAt l x.position) .badResponse := by
  unfold State.challengeMismatch
  rw [hop]

theorem challengeCounter_identify (hop : x.op = .identify) (hrec : x.record = some rec') : s.challengeCounter l x c =
    s.endOperation l fun t => t.identified (bayAt l x.position) rec' c := by
  unfold State.challengeCounter
  rw [hop]
  dsimp only
  rw [hrec]

theorem enterRejected_table (s : State) (b : Bay) (reason : RejectReason) : (s.enterRejected b reason).table = s.table := by
  rw [State.enterRejected, latch_table, setPhase_table]

theorem duplicateFound_only (s : State) (b h : Bay) : ActsOnly b s (s.duplicateFound b h) :=
  (enterRejected_only s b _).trans ((flushTable_only _ b _).trans (latch_only _ b _ _))

theorem duplicateFound_bay (s : State) (b h : Bay) :
    ((s.duplicateFound b h).bay b).phase = .rejected .duplicateSerial DrawFigures.zero := by
  rw [State.duplicateFound, latch_bay, flushTable_bay, enterRejected_bay]

theorem duplicateFound_table (s : State) (b h : Bay) : (s.duplicateFound b h).table =
    s.table.map fun e => if e.bay = some h then { e with cloneSeen := true } else e := by
  rw [State.duplicateFound, latch_table, flushTable_table]
  show (s.enterRejected b .duplicateSerial).table.map _ = _
  rw [enterRejected_table]

theorem duplicateFound_latched (s : State) (b h : Bay) :
    (s.duplicateFound b h).latchOf (baySite b) Kind.rejected.code ≠ none ∧
      (s.duplicateFound b h).latchOf (baySite h) Kind.duplicate.code ≠ none := by
  refine ⟨latch_stays _ _ _ _ _ ?_, latch_set _ _ _⟩
  rw [flushTable_frame]
  exact latch_set _ _ _

end

/-- Settles O44. -/
theorem identifyChallengeJudged : Obligations.IdentifyChallengeJudged := by
  intro s l x rec' k n response c haw hstep hop hrec hk hnonce hc
  dsimp only
  have hauth := replyAuthentic_counterReply (s := s) (l := l) (x := { x with timer := none }) (n := n) (response := response) hc
    (identityFor_identify (x := { x with timer := none }) hop hrec hk)
  have hexec : exec (.tagReply l (counterReply x.position c response)) s = .next (if s.replyAuthentic l { x with timer := none } (some n)
      (counterReply x.position c response) then s.challengeCounter l { x with timer := none } c
      else s.challengeMismatch l { x with timer := none }).settleConverter := by
    rw [tagReply_awaited haw (by rw [hstep]; exact counterReply_frameOk (by decide) _ _),
      judgeReply_challenge (x := { x with timer := none }) hstep, counterReply_counter hc, ← hnonce]
  refine ⟨fun hwrong => ?_, fun master hm hr => ?_⟩
  · rw [if_neg (fun h => by obtain ⟨master, hm, hr⟩ := hauth.1 h; exact hwrong master hm hr),
      challengeMismatch_identify (x := { x with timer := none }) hop] at hexec
    obtain ⟨t, heq, hrej⟩ := failIdentify_rejects s l (bayAt l x.position) .badResponse
    exact ⟨t, hexec.trans (by rw [heq]), hrej⟩
  · rw [if_pos (hauth.2 ⟨master, hm, hr⟩), challengeCounter_identify (x := { x with timer := none }) hop hrec,
      endOperation_eq] at hexec
    refine ⟨fun hne hne' => ?_, fun hfit h bd hhb hbd hserial hfirst => ?_⟩
    · rw [identified_misfit (s := s.laneEnded l) hne hne'] at hexec
      obtain ⟨t, heq, hrej⟩ := failIdentify_rejects s l (bayAt l x.position) .wrongInk
      exact ⟨t, hexec.trans (by rw [← heq]; rfl), hrej⟩
    · rw [identified_duplicate (s := s.laneEnded l) hfit (holder_eq (s := s.laneEnded l) hhb hbd hserial hfirst)] at hexec
      obtain ⟨hrejected, hduplicate⟩ := duplicateFound_latched (s.laneEnded l) (bayAt l x.position) h
      exact ⟨_, hexec, duplicateFound_bay _ _ _, (duplicateFound_only (s.laneEnded l) (bayAt l x.position) h).others, hrejected,
        hduplicate, duplicateFound_table _ _ _⟩

end Sys2Proof.Machine

/-! LEVELS_SET (R121, R122): where the pair of a request goes by the bay's state, and what the reply says of it. -/

namespace Sys2Proof.Machine

section

variable {s : State} {r : Request} {rest : List Request} {b : Bay}

/-- The threshold pair that a LEVELS_SET body of two words gives (R121). -/
theorem thresholds_laid_out {low out : Nat} (hlow : low < 65536) (hout : out < 65536)
    (hb : r.body = toBytes 1 b.val ++ toBytes 2 low ++ toBytes 2 out) :
    Thresholds.ofRequest (r.wordAt 1) (r.wordAt 3) =
      { low := min 1000 low, out := min (min 1000 low) (min 1000 out) } := by
  simp [Thresholds.ofRequest, Request.wordAt, hb, field_after_toBytes, field_front, field_all, clamp,
    Nat.mod_eq_of_lt, hlow, hout]

/-- A pair stored for a bay and placed at it, and the bay's line evaluated (R121). -/
def State.pairPlaced (s : State) (b : Bay) (pair : Thresholds) : State :=
  ((s.modBay b fun x => x.placePair pair).modBayCfg b fun c => { c with stored := pair }).evalLine b

theorem exec_levelsSet_bay {low out : Nat} (hlow : low < 65536) (hout : out < 65536) (h : Taking s .levelsSet r rest)
    (hb : r.body = toBytes 1 b.val ++ toBytes 2 low ++ toBytes 2 out) :
    exec .levelsSet s = .next (((s.dequeued rest).pairPlaced b
        { low := min 1000 low, out := min (min 1000 low) (min 1000 out) }).settingsChanged.place
      (r.answer .ok
        ((s.bay b).placePair { low := min 1000 low, out := min (min 1000 low) (min 1000 out) }).levelsBody)) := by
  have hbay : r.body = toBytes 1 b.val ++ (toBytes 2 low ++ toBytes 2 out) := by rw [hb, List.append_assoc]
  show execLevelsSet s = _
  rw [execLevelsSet, take_taking h (by simp [hb, ReqKind.lengthOk]), withBay_bay hbay]
  simp only [thresholds_laid_out hlow hout hb]
  rfl

theorem pairPlaced_frame (s : State) (b : Bay) (pair : Thresholds) :
    s.pairPlaced b pair = { s with bays := (s.pairPlaced b pair).bays, settings := (s.pairPlaced b pair).settings } :=
  rfl

theorem pairPlaced_bay (s : State) (b : Bay) (pair : Thresholds) :
    (s.pairPlaced b pair).bay b =
      { (s.bay b).placePair pair with line := ((s.pairPlaced b pair).bay b).line } := by
  have hplaced : (((s.modBay b fun x => x.placePair pair).modBayCfg b fun c => { c with stored := pair }).bay b) =
      (s.bay b).placePair pair := bay_modBay_same s b _
  have hline := evalLine_bay ((s.modBay b fun x => x.placePair pair).modBayCfg b fun c => { c with stored := pair }) b
  rw [hplaced] at hline
  rw [show s.pairPlaced b pair = _ from rfl, State.pairPlaced, hline]

theorem pairPlaced_bay_other (s : State) (pair : Thresholds) {c : Bay} (h : c ≠ b) :
    (s.pairPlaced b pair).bay c = s.bay c :=
  (evalLine_bay_other _ h).trans (bay_modBay_other s h _)

theorem pairPlaced_bayCfg (s : State) (b : Bay) (pair : Thresholds) (c : Bay) :
    (s.pairPlaced b pair).bayCfg c = if b = c then { s.bayCfg b with stored := pair } else s.bayCfg c :=
  bayCfg_modBayCfg (s.modBay b fun x => x.placePair pair) b c fun y => { y with stored := pair }

/-! ### Where a pair goes (R121) -/

theorem placePair_active {x : BayRec} {bd : Binding} (h : x.phase = .active bd) (pair : Thresholds) :
    x.placePair pair = { x with staged := some pair } := by
  simp only [BayRec.placePair, h]

theorem placePair_released {x : BayRec} {bd : Binding} (h : x.phase = .released bd) (pair : Thresholds) :
    x.placePair pair =
      { x with thresholds := pair, phase := .released (bd.setInk (inkOf pair bd.capacity bd.remaining)) } := by
  simp only [BayRec.placePair, h]

theorem placePair_unbound {x : BayRec} (h : x.phase.binding? = none) (pair : Thresholds) :
    x.placePair pair = { x with thresholds := pair } := by
  cases hp : x.phase with
  | active bd => simp [hp, Phase.binding?] at h
  | released bd => simp [hp, Phase.binding?] at h
  | off => simp only [BayRec.placePair, hp]
  | vacant => simp only [BayRec.placePair, hp]
  | seated => simp only [BayRec.placePair, hp]
  | identifying => simp only [BayRec.placePair, hp]
  | rejected reason d => simp only [BayRec.placePair, hp]

/-- Outside ACTIVE the pair is active at once, nothing is staged by it, and the bay does not become ACTIVE. -/
theorem placePair_inactive {x : BayRec} (h : x.phase.active? = none) (pair : Thresholds) :
    (x.placePair pair).thresholds = pair ∧ (x.placePair pair).staged = x.staged ∧
      (x.placePair pair).phase.active? = none := by
  by_cases hb : x.phase.binding? = none
  · rw [placePair_unbound hb]
    exact ⟨rfl, rfl, h⟩
  · cases hp : x.phase with
    | released bd =>
      rw [placePair_released hp]
      exact ⟨rfl, rfl, rfl⟩
    | active bd => simp [hp, Phase.active?] at h
    | off => simp [hp, Phase.binding?] at hb
    | vacant => simp [hp, Phase.binding?] at hb
    | seated => simp [hp, Phase.binding?] at hb
    | identifying => simp [hp, Phase.binding?] at hb
    | rejected reason d => simp [hp, Phase.binding?] at hb

/-! ### The reply (R179) -/

theorem levelsBody_staged {x : BayRec} {bd : Binding} {pair : Thresholds} (hp : x.phase = .active bd)
    (hs : x.staged = some pair) :
    x.levelsBody =
      toBytes 2 x.thresholds.low ++ toBytes 2 x.thresholds.out ++ toBytes 2 pair.low ++ toBytes 2 pair.out ++ [1] := by
  simp only [BayRec.levelsBody, hp, hs]
  rfl

theorem levelsBody_unstaged {x : BayRec} (hp : x.phase.active? = none) (hs : x.staged = none) :
    x.levelsBody =
      toBytes 2 x.thresholds.low ++ toBytes 2 x.thresholds.out ++ [0xFF, 0xFF, 0xFF, 0xFF, 0] := by
  simp [BayRec.levelsBody, hp, hs, wordOrAbsent, flagByte]

end

/-- Settles O24: the bay's record is `BayRec.placePair` of the old one but for its line. -/
theorem levelsSetPlaces : Obligations.LevelsSetPlaces := by
  intro s r rest b low out h hlow hout hb pair
  refine ⟨_, exec_levelsSet_bay hlow hout h hb, ?_⟩
  have hframe := pairPlaced_frame (s.dequeued rest) b pair
  have hown : ((s.dequeued rest).pairPlaced b pair).bay b = { (s.bay b).placePair pair with
      line := (((s.dequeued rest).pairPlaced b pair).bay b).line } := pairPlaced_bay (s.dequeued rest) b pair
  have hothers : ∀ c, c ≠ b → ((s.dequeued rest).pairPlaced b pair).bay c = s.bay c :=
    fun c hc => pairPlaced_bay_other (s.dequeued rest) pair hc
  have hcfg : ∀ c, ((s.dequeued rest).pairPlaced b pair).bayCfg c =
      if b = c then { s.bayCfg b with stored := pair } else s.bayCfg c := pairPlaced_bayCfg (s.dequeued rest) b pair
  generalize (s.dequeued rest).pairPlaced b pair = u at hframe hown hothers hcfg ⊢
  have hchanged := settingsChanged_frame u
  have hbay : ∀ c, (u.settingsChanged.place (r.answer .ok ((s.bay b).placePair pair).levelsBody)).bay c = u.bay c :=
    fun c => settingsChanged_bay u c
  have hreplies : (u.settingsChanged.place (r.answer .ok ((s.bay b).placePair pair).levelsBody)).replies =
      s.replies ++ [r.answer .ok ((s.bay b).placePair pair).levelsBody] := by
    show u.settingsChanged.replies ++ _ = _
    rw [hchanged, hframe]
    rfl
  refine ⟨?_, ?_, fun c hc => ⟨?_, ?_⟩, fun bd hp => ?_, fun hp => ⟨?_, ?_, fun bd hrel => ?_, fun hnone => ?_,
    fun hstaged => ?_⟩⟩
  · generalize u.settingsChanged = v at hchanged ⊢
    rw [hchanged, hframe]
    rfl
  · exact (settingsChanged_bayCfg u b).trans ((hcfg b).trans (if_pos rfl))
  · exact (settingsChanged_bayCfg u c).trans ((hcfg c).trans (if_neg hc.symm))
  · rw [hbay, hothers c hc]
  · have hplaced := placePair_active hp pair
    rw [hbay, hown, hreplies, hplaced,
      levelsBody_staged (x := { s.bay b with staged := some pair }) (pair := pair) hp rfl]
    exact ⟨hp, rfl, rfl, rfl⟩
  · rw [hbay, hown]
    exact (placePair_inactive hp pair).1
  · rw [hbay, hown]
    exact (placePair_inactive hp pair).2.1
  · rw [hbay, hown, placePair_released hrel]
    rfl
  · rw [hbay, hown, placePair_unbound hnone]
  · obtain ⟨hthresholds, hkept, hinactive⟩ := placePair_inactive hp pair
    rw [hreplies, levelsBody_unstaged hinactive (hkept.trans hstaged), hthresholds]

end Sys2Proof.Machine

/-! The passes of a SURVEY_RUN (R153, R154): what a run record becomes when a pass has no member left, and the bit sets and
results of its reply. -/

namespace Sys2Proof.Machine

/-! ### Sets of bays as numbers (R179) -/

theorem baySet_toNat_eq (v : BaySet) : BaySet.toNat v = Nat.ofBits fun b : Fin 12 => v[b] := by
  have hbit : ∀ (x : Bool) (k : Nat), (if x then 2 ^ k else 0) = 2 ^ k * x.toNat := fun x k => by cases x <;> simp
  obtain ⟨f, hf⟩ : ∃ f : Bay → Bool, ∀ b : Bay, v[b] = f b := ⟨_, fun _ => rfl⟩
  unfold BaySet.toNat allBays
  simp only [List.foldl_cons, List.foldl_nil, hbit, hf, Nat.ofBits_succ, Nat.ofBits_zero, Function.comp_apply,
    Fin.succ_zero_eq_one, Fin.reduceSucc]
  norm_num
  ring

theorem baySet_toNat_lt (v : BaySet) : BaySet.toNat v < 4096 := by
  rw [baySet_toNat_eq]
  exact Nat.ofBits_lt_two_pow _

theorem baySet_toNat_testBit (v : BaySet) (b : Bay) : (BaySet.toNat v).testBit b.val = v[b] := by
  rw [baySet_toNat_eq, Nat.testBit_ofBits_lt _ _ b.isLt]

theorem baySetOf_get (n : Nat) (b : Bay) : (baySetOf n)[b] = n.testBit b.val := by
  simp [baySetOf]

theorem baySet_toNat_baySetOf (n : Nat) : BaySet.toNat (baySetOf n) = n % 4096 := by
  rw [baySet_toNat_eq]
  simp only [baySetOf_get]
  exact Nat.ofBits_testBit n 12

/-- Two sets of bays with the same members are one. -/
theorem baySet_ext {v w : BaySet} (h : ∀ b : Bay, v[b] = w[b]) : v = w :=
  Vector.ext fun i hi => h ⟨i, hi⟩

/-! ### The record of a run -/

theorem hasMembers_iff (r : SurveyRun) : r.hasMembers = true ↔ ∃ b : Bay, r.members[b] ≠ none := by
  simp [SurveyRun.hasMembers, mem_allBays, Option.isSome_iff_ne_none]

theorem hasMembers_false (r : SurveyRun) : r.hasMembers = false ↔ ∀ b : Bay, r.members[b] = none := by
  rw [← Bool.not_eq_true, hasMembers_iff]
  exact ⟨fun h b => not_not.mp fun hb => h ⟨b, hb⟩, fun h ⟨b, hb⟩ => hb (h b)⟩

/-- The reply of a run lists its results bay by bay (R154). -/
theorem surveyBody_eq (r : SurveyRun) :
    r.body = toBytes 1 r.passesRun ++ toBytes 2 (BaySet.toNat r.skipped) ++ r.resultBytes := by
  have hresults : r.resultBytes =
      allBays.flatMap fun b => wordOrAbsent (r.results[b].map (·.1)) ++ wordOrAbsent (r.results[b].map (·.2)) :=
    congrArg (fun f => allBays.flatMap f) (funext fun b => by cases r.results[b] <;> rfl)
  rw [hresults]
  rfl

/-- The record of a run once a pass has started with these bays as members (R153). -/
def SurveyRun.passStarted (r : SurveyRun) (surveyable : Bay → Bool) : SurveyRun :=
  { r with
    passesLeft := r.passesLeft - 1, passesRun := r.passesRun + 1
    members := Vector.ofFn fun b => if r.listed[b] && surveyable b then some false else none
    skipped := Vector.ofFn fun b => r.skipped[b] || (r.listed[b] && !surveyable b) }

theorem passStarted_members (r : SurveyRun) (f : Bay → Bool) (b : Bay) :
    (r.passStarted f).members[b] = if r.listed[b] && f b then some false else none := by
  simp [SurveyRun.passStarted]

theorem passStarted_skipped (r : SurveyRun) (f : Bay → Bool) (b : Bay) :
    (r.passStarted f).skipped[b] = (r.skipped[b] || (r.listed[b] && !f b)) := by
  simp [SurveyRun.passStarted]

/-- The record of a run whose remaining passes all ran with no member: every listed bay is skipped (R153). -/
def SurveyRun.allSkipped (r : SurveyRun) : SurveyRun :=
  { r with
    passesRun := r.passesRun + r.passesLeft
    skipped := Vector.ofFn fun b => r.skipped[b] || (decide (0 < r.passesLeft) && r.listed[b]) }

theorem allSkipped_skipped (r : SurveyRun) (b : Bay) :
    r.allSkipped.skipped[b] = (r.skipped[b] || (decide (0 < r.passesLeft) && r.listed[b])) := by
  simp [SurveyRun.allSkipped]

/-! ### Passes that start (R153) -/

section

variable {s : State} {r : SurveyRun}

theorem surveyable_congr {t : State} {b : Bay} (hp : (t.bay b).phase = (s.bay b).phase)
    (hc : t.bayCfg b = s.bayCfg b) : t.surveyable b = s.surveyable b := by
  unfold State.surveyable State.isActive
  rw [hp, hc]

theorem startPass_run : (s.startPass r).run = some (r.passStarted s.surveyable) := rfl

theorem startPass_surveyable (b : Bay) : (s.startPass r).surveyable b = s.surveyable b :=
  surveyable_congr (startPass_scheduled s r b).phase rfl

/-- A pass with no member changes nothing but the record. -/
theorem startPass_idle (h : ∀ b : Bay, r.listed[b] = true → s.surveyable b = false) :
    s.startPass r = { s with run := some (r.passStarted s.surveyable) } := by
  have hbays : (s.startPass r).bays = s.bays := by
    refine Vector.ext fun i hi => ?_
    have hbay : (s.startPass r).bay ⟨i, hi⟩ = s.bay ⟨i, hi⟩ := by
      rw [startPass_bay]
      have hno : (r.listed[(⟨i, hi⟩ : Bay)] && s.surveyable ⟨i, hi⟩) = false := by
        cases hl : r.listed[(⟨i, hi⟩ : Bay)] with
        | false => rfl
        | true => exact h _ hl
      rw [hno, Bool.or_false]
    exact hbay
  have hframe := startPass_frame s r
  rw [hbays] at hframe
  exact hframe

theorem startPasses_zero (hr : s.run = some r) :
    State.startPasses 0 s = State.placeLong { s with run := none } r.reserved r.ticket .surveyRun .ok r.body := by
  unfold State.startPasses State.endRun
  rw [hr]

theorem startPasses_succ (hr : s.run = some r) (n : Nat) :
    State.startPasses (n + 1) s =
      if (r.passStarted s.surveyable).hasMembers then s.startPass r else State.startPasses n (s.startPass r) := by
  show (match s.run with
    | none => s
    | some r =>
      match (s.startPass r).run with
      | none => s.startPass r
      | some r' => if r'.hasMembers then s.startPass r else State.startPasses n (s.startPass r)) = _
  rw [hr]
  rfl

/-- With no listed bay left to survey, the remaining passes run at once and the run ends with its reply (R153, R154). -/
theorem startPasses_ends (hr : s.run = some r)
    (h : r.passesLeft = 0 ∨ ∀ b : Bay, r.listed[b] = true → s.surveyable b = false) :
    State.startPasses r.passesLeft s =
      State.placeLong { s with run := none } r.reserved r.ticket .surveyRun .ok r.allSkipped.body := by
  induction hn : r.passesLeft generalizing s r with
  | zero =>
    have hrecord : r.allSkipped = { r with skipped := r.allSkipped.skipped } := by
      simp only [SurveyRun.allSkipped, hn, Nat.add_zero]
    have hskipped : r.allSkipped.skipped = r.skipped := baySet_ext fun b => by
      rw [allSkipped_skipped, hn]
      exact Bool.or_false _
    rw [startPasses_zero hr, hrecord, hskipped]
  | succ n ih =>
    have hlisted := h.resolve_left (by omega)
    have hmembers : (r.passStarted s.surveyable).hasMembers = false := by
      refine (hasMembers_false _).mpr fun b => ?_
      rw [passStarted_members]
      cases hl : r.listed[b] with
      | false => rfl
      | true => rw [hlisted b hl]; rfl
    rw [startPasses_succ hr, if_neg (by rw [hmembers]; exact Bool.false_ne_true), startPass_idle hlisted]
    have hrest := ih (s := { s with run := some (r.passStarted s.surveyable) }) (r := r.passStarted s.surveyable) rfl
      (.inr hlisted) (by simp [SurveyRun.passStarted, hn])
    rw [hrest]
    have hbody : (r.passStarted s.surveyable).allSkipped.body = r.allSkipped.body := by
      have hcount : (r.passStarted s.surveyable).allSkipped.passesRun = r.allSkipped.passesRun := by
        show r.passesRun + 1 + (r.passesLeft - 1) = r.passesRun + r.passesLeft
        omega
      have hskipped : (r.passStarted s.surveyable).allSkipped.skipped = r.allSkipped.skipped :=
        baySet_ext fun b => by
          rw [allSkipped_skipped, allSkipped_skipped, passStarted_skipped]
          cases hl : r.listed[b] with
          | false => simp [SurveyRun.passStarted, hl]
          | true => simp [SurveyRun.passStarted, hl, hlisted b hl, hn]
      have hresults : (r.passStarted s.surveyable).allSkipped.resultBytes = r.allSkipped.resultBytes := rfl
      rw [surveyBody_eq, surveyBody_eq, hcount, hskipped, hresults]
    rw [hbody]
    rfl

/-- With a listed bay to survey, the next pass has members and is the current one. -/
theorem startPasses_members (hr : s.run = some r) (hleft : 0 < r.passesLeft)
    (h : ∃ b : Bay, r.listed[b] = true ∧ s.surveyable b = true) :
    State.startPasses r.passesLeft s = s.startPass r := by
  obtain ⟨n, hn⟩ := Nat.exists_eq_succ_of_ne_zero (Nat.pos_iff_ne_zero.mp hleft)
  have hmembers : (r.passStarted s.surveyable).hasMembers = true := by
    obtain ⟨b, hl, hs⟩ := h
    exact (hasMembers_iff _).mpr ⟨b, by rw [passStarted_members, hl, hs]; exact Option.some_ne_none _⟩
  rw [hn, startPasses_succ hr, if_pos hmembers]

/-- Only a bay that can be surveyed becomes wanted by a pass. -/
theorem startPasses_bay_kept (n : Nat) {b : Bay} (h : s.surveyable b = false) :
    (State.startPasses n s).bay b = s.bay b := by
  induction n generalizing s with
  | zero => exact congrArg (·[b]) (endRun_bays s)
  | succ n ih =>
    cases hr : s.run with
    | none => simp only [State.startPasses, hr]
    | some r =>
      have hfirst : (s.startPass r).bay b = s.bay b := by rw [startPass_bay, h, Bool.and_false, Bool.or_false]
      rw [startPasses_succ hr]
      split
      · exact hfirst
      · rw [ih ((startPass_surveyable b).trans h), hfirst]

/-- Passes change a bay's wanted flag alone. -/
theorem startPasses_bay (n : Nat) (b : Bay) :
    (State.startPasses n s).bay b = { s.bay b with wanted := ((State.startPasses n s).bay b).wanted } := by
  induction n generalizing s with
  | zero => rw [show (State.startPasses 0 s).bay b = s.bay b from congrArg (·[b]) (endRun_bays s)]
  | succ n ih =>
    cases hr : s.run with
    | none => simp only [State.startPasses, hr]
    | some r =>
      rw [startPasses_succ hr]
      split
      · rw [startPass_bay]
      · rw [ih, startPass_bay]

end

/-! ### The end of a pass (R153, R154) -/

section

variable {s u t : State} {r : SurveyRun}

theorem passCheck_eq (hr : u.run = some r) :
    u.passCheck = if r.hasMembers then u else State.startPasses r.passesLeft u := by
  unfold State.passCheck
  rw [hr]

theorem passCheck_none (hr : u.run = none) : u.passCheck = u := by
  unfold State.passCheck
  rw [hr]

theorem passCheck_bay (b : Bay) : u.passCheck.bay b = { u.bay b with wanted := (u.passCheck.bay b).wanted } := by
  cases hr : u.run with
  | none => rw [passCheck_none hr]
  | some r =>
    rw [passCheck_eq hr]
    split
    · rfl
    · exact startPasses_bay _ b

theorem passCheck_bay_kept {b : Bay} (h : u.surveyable b = false) : u.passCheck.bay b = u.bay b := by
  cases hr : u.run with
  | none => rw [passCheck_none hr]
  | some r =>
    rw [passCheck_eq hr]
    split
    · rfl
    · exact startPasses_bay_kept _ h

theorem passCheck_surveyable (b : Bay) : u.passCheck.surveyable b = u.surveyable b :=
  surveyable_congr (passCheck_scheduled u b).phase (congrArg (fun c => c.bays[b]) (CoreKept.settings (passCheck_core u)))

/-- The check of a pass leads on as the rules say. -/
theorem passCheck_goesOn (hr : u.run = some r) (hreplies : u.replies = s.replies) : RunGoesOn s r u.passCheck := by
  refine ⟨fun hmember => ?_, fun hnone hleft hlisted => ?_, fun hnone hends => ?_⟩
  · rw [passCheck_eq hr, if_pos ((hasMembers_iff r).mpr hmember)]
    exact ⟨hr, hreplies⟩
  · have hmore : ∃ b : Bay, r.listed[b] = true ∧ u.surveyable b = true := by
      obtain ⟨b, hl, hs⟩ := hlisted
      exact ⟨b, hl, (passCheck_surveyable b).symm.trans hs⟩
    have hstart : u.passCheck = u.startPass r := by
      rw [passCheck_eq hr, if_neg (by rw [(hasMembers_false r).mpr hnone]; exact Bool.false_ne_true),
        startPasses_members hr hleft hmore]
    have hsurvey : ∀ b, (u.startPass r).surveyable b = u.surveyable b := startPass_surveyable
    rw [hstart]
    refine ⟨hreplies, r.passStarted u.surveyable, rfl, rfl, fun b => ⟨?_, ?_, fun hb => ?_⟩⟩
    · rw [passStarted_members, hsurvey]
    · rw [passStarted_skipped, hsurvey]
    · rw [startPass_bay, ← hsurvey b, hb, Bool.or_true]
  · have hlisted : r.passesLeft = 0 ∨ ∀ b : Bay, r.listed[b] = true → u.surveyable b = false :=
      hends.imp_right fun h b hb => (passCheck_surveyable b).symm.trans (h b hb)
    rw [passCheck_eq hr, if_neg (by rw [(hasMembers_false r).mpr hnone]; exact Bool.false_ne_true),
      startPasses_ends hr hlisted]
    refine ⟨by rw [placeLong_frame], BaySet.toNat r.allSkipped.skipped, baySet_toNat_lt _, fun b => ?_, ?_⟩
    · rw [baySet_toNat_testBit, allSkipped_skipped]
    · have hresults : r.allSkipped.resultBytes = r.resultBytes := rfl
      have hcount : r.allSkipped.passesRun = r.passesRun + r.passesLeft := rfl
      rw [surveyBody_eq, hresults, hcount]
      unfold State.placeLong
      split
      · exact congrArg (· ++ _) hreplies
      · rw [List.append_nil]
        exact hreplies

/-- What follows the check may change all but the run, the replies, and which bays can be surveyed and are wanted. -/
theorem RunGoesOn.congr (h : RunGoesOn s r u) (hrun : t.run = u.run) (hreplies : t.replies = u.replies)
    (hsurvey : ∀ b, t.surveyable b = u.surveyable b) (hwanted : ∀ b, (t.bay b).wanted = (u.bay b).wanted) :
    RunGoesOn s r t := by
  unfold RunGoesOn at h ⊢
  simpa only [hrun, hreplies, hsurvey, hwanted] using h

end

/-! ### A bay that leaves the run -/

theorem put_put {α : Type} {n : Nat} (v : Vector α n) (i : Fin n) (x y : α) : put (put v i x) i y = put v i y := by
  unfold put
  simp

/-- A bay's membership ends by `SurveyRun.without` when the bay leaves ACTIVE (R153, R154). -/
theorem without_eq (r : SurveyRun) (b : Bay) (removed : Bool) :
    SurveyRun.skipMember (if removed then r.drop b else r) b = r.without b removed := by
  have hkeep : ∀ {v : BaySet} {x : Bool}, v[b.val] = x → put v b x = v := fun h => h ▸ put_get _ b
  by_cases hm : r.members[b.val] = some false
  · cases removed with
    | false => simp [SurveyRun.skipMember, SurveyRun.without, hm]
    | true =>
      cases hl : r.listed[b.val] with
      | false => simp [SurveyRun.skipMember, SurveyRun.without, SurveyRun.drop, hm, hl, hkeep hl]
      | true => simp [SurveyRun.skipMember, SurveyRun.without, SurveyRun.drop, hm, hl, put_put]
  · have hwaits : (r.members[b.val] == some false) = false := beq_eq_false_iff_ne.mpr hm
    cases removed with
    | false => simp [SurveyRun.skipMember, SurveyRun.without, hm, hwaits, hkeep]
    | true =>
      cases hl : r.listed[b.val] with
      | false => simp [SurveyRun.skipMember, SurveyRun.without, SurveyRun.drop, hm, hwaits, hl, hkeep]
      | true => simp [SurveyRun.skipMember, SurveyRun.without, SurveyRun.drop, hm, hwaits, hl]

/-- A bay leaves ACTIVE while a run is in progress: the run goes on without it. -/
theorem leftActive_goesOn {s u : State} {b : Bay} {removed : Bool} {r : SurveyRun} (hr : u.run = some r)
    (hreplies : u.replies = s.replies) : RunGoesOn s (r.without b removed) (u.leftActive b removed) := by
  rw [← without_eq]
  have hframe := discardConversion_frame (u.modBay b fun x =>
    { x with wanted := false, surveyTimer := none, due := none }) b
  unfold State.leftActive
  dsimp only
  generalize (u.modBay b fun x => { x with wanted := false, surveyTimer := none, due := none }).discardConversion b = v
    at hframe ⊢
  have hrun : v.run = some r := by rw [hframe]; exact hr
  rw [hrun]
  exact passCheck_goesOn rfl (by rw [hframe]; exact hreplies)

end Sys2Proof.Machine

/-! SENSE_SET (R143): the calibration as written, the survey it wants, and the run it may end a membership of. -/

namespace Sys2Proof.Machine

section

variable {s : State} {r : Request} {rest : List Request} {b : Bay}

/-- The calibration that a SENSE_SET body gives (R143, R179). -/
theorem calib_laid_out {e f m n p : Nat} (he : e < 65536) (hf : f < 65536) (hm : m < 65536) (hn : n < 256)
    (hp : p < 65536)
    (hb : r.body = toBytes 1 b.val ++ toBytes 2 e ++ toBytes 2 f ++ toBytes 2 m ++ toBytes 1 n ++ toBytes 2 p) :
    Calib.ofRequest r =
      { empty := min 1023 e, full := min 1023 f, margin := max 20 (min 500 m), persist := max 1 (min 15 n)
        period := max 100 (min 10000 p) } := by
  simp [Calib.ofRequest, Request.wordAt, Request.byteAt, hb, field_after_toBytes, field_front, field_all, clamp,
    Nat.mod_eq_of_lt, he, hf, hm, hn, hp]

theorem calib_valid_iff (c : Calib) : c.valid = true ↔ c.empty ≠ c.full := by simp [Calib.valid]

theorem calib_invalid_iff (c : Calib) : c.valid = false ↔ c.empty = c.full := by simp [Calib.valid]

theorem calib_body (c : Calib) :
    c.body = toBytes 2 c.empty ++ toBytes 2 c.full ++ toBytes 2 c.margin ++ toBytes 1 c.persist ++ toBytes 2 c.period ++
      [if c.empty = c.full then 0 else 1] := by
  by_cases h : c.empty = c.full <;> simp [Calib.body, flagByte, Calib.valid, h]

theorem exec_senseSet_bay {c : Calib} (h : Taking s .senseSet r rest) (hl : r.body.length = 10)
    {tail : List Byte} (hbay : r.body = toBytes 1 b.val ++ tail) (hc : Calib.ofRequest r = c) :
    exec .senseSet s = .next (((s.dequeued rest).setCalib b c).settingsChanged.settleConverter.place
      (r.answer .ok c.body)) := by
  show execSenseSet s = _
  rw [execSenseSet, take_taking h (by simp [hl, ReqKind.lengthOk]), withBay_bay hbay, hc]
  rfl

/-! ### What is written -/

theorem discardConversion_converter (s : State) (b : Bay) :
    (s.discardConversion b).converter =
      s.converter.map fun x => if x.channel = bayChannel b then { x with discard := true } else x := by
  unfold State.discardConversion
  cases hc : s.converter with
  | none => exact hc
  | some x =>
    dsimp only
    split <;> simp_all

/-- A calibration written at a bay, before the run is looked at (R143). -/
def State.calibrated (s : State) (b : Bay) (c : Calib) : State :=
  ((s.modBayCfg b fun x => { x with calib := c }).discardConversion b).modBay b fun x =>
    { x with counter := 0, wanted := x.wanted || s.senseWants b c }

theorem calibrated_frame (s : State) (b : Bay) (c : Calib) :
    s.calibrated b c = { s with
      bays := (s.calibrated b c).bays
      settings := (s.modBayCfg b fun x => { x with calib := c }).settings
      converter := s.converter.map fun x => if x.channel = bayChannel b then { x with discard := true } else x } := by
  have hframe := discardConversion_frame (s.modBayCfg b fun x => { x with calib := c }) b
  have hconverter := discardConversion_converter (s.modBayCfg b fun x => { x with calib := c }) b
  unfold State.calibrated
  generalize (s.modBayCfg b fun x => { x with calib := c }).discardConversion b = u at hframe hconverter ⊢
  rw [hconverter] at hframe
  rw [hframe]
  rfl

theorem calibrated_bay (s : State) (b : Bay) (c : Calib) :
    (s.calibrated b c).bay b =
      { s.bay b with counter := 0, wanted := (s.bay b).wanted || s.senseWants b c } := by
  unfold State.calibrated
  rw [bay_modBay_same, discardConversion_bay]
  rfl

theorem calibrated_bay_other (s : State) (c : Calib) {d : Bay} (h : d ≠ b) : (s.calibrated b c).bay d = s.bay d := by
  unfold State.calibrated
  rw [bay_modBay_other _ h, discardConversion_bay]
  rfl

theorem calibrated_bayCfg (s : State) (b : Bay) (c : Calib) (d : Bay) :
    (s.calibrated b c).bayCfg d = if b = d then { s.bayCfg b with calib := c } else s.bayCfg d := by
  have hsettings : (s.calibrated b c).settings = (s.modBayCfg b fun x => { x with calib := c }).settings := by
    rw [calibrated_frame]
  exact (congrArg (fun x => x.bays[d]) hsettings).trans (bayCfg_modBayCfg s b d fun x => { x with calib := c })

/-- A bay with an invalid calibration cannot be surveyed. -/
theorem calibrated_unsurveyable {c : Calib} (h : c.valid = false) : (s.calibrated b c).surveyable b = false := by
  unfold State.surveyable
  rw [calibrated_bayCfg, if_pos rfl]
  exact Bool.and_eq_false_imp.mpr fun _ => h

/-- The state whose pass is checked once an invalid calibration is written. -/
def State.decalibrated (s : State) (b : Bay) (c : Calib) : State :=
  { s.calibrated b c with run := s.run.map fun x => x.skipMember b }

theorem setCalib_valid {c : Calib} (h : c.valid = true) : s.setCalib b c = s.calibrated b c := if_pos h

theorem setCalib_invalid {c : Calib} (h : c.valid = false) : s.setCalib b c = (s.decalibrated b c).passCheck := by
  have hrun : (s.calibrated b c).run = s.run := by rw [calibrated_frame]
  have hset : s.setCalib b c =
      State.passCheck { s.calibrated b c with run := (s.calibrated b c).run.map fun x => x.skipMember b } :=
    if_neg (by rw [h]; exact Bool.false_ne_true)
  rw [hset, hrun]
  rfl

theorem setCalib_frame (s : State) (b : Bay) (c : Calib) :
    s.setCalib b c = { s with
      bays := (s.setCalib b c).bays
      settings := (s.modBayCfg b fun x => { x with calib := c }).settings
      converter := s.converter.map fun x => if x.channel = bayChannel b then { x with discard := true } else x
      run := (s.setCalib b c).run, replies := (s.setCalib b c).replies } := by
  have hcal := calibrated_frame s b c
  cases hv : c.valid with
  | true =>
    rw [setCalib_valid hv]
    generalize s.calibrated b c = u at hcal ⊢
    rw [hcal]
  | false =>
    have hpass := passCheck_frame (s.decalibrated b c)
    rw [setCalib_invalid hv]
    generalize (s.decalibrated b c).passCheck = t at hpass ⊢
    rw [hpass]
    unfold State.decalibrated
    generalize s.calibrated b c = u at hcal ⊢
    rw [hcal]

theorem setCalib_bay (s : State) (b : Bay) (c : Calib) :
    (s.setCalib b c).bay b = { s.bay b with counter := 0, wanted := (s.bay b).wanted || s.senseWants b c } := by
  cases hv : c.valid with
  | true => rw [setCalib_valid hv, calibrated_bay]
  | false =>
    have hkept : (s.decalibrated b c).passCheck.bay b = (s.decalibrated b c).bay b :=
      passCheck_bay_kept (calibrated_unsurveyable hv)
    rw [setCalib_invalid hv, hkept]
    exact calibrated_bay s b c

theorem setCalib_others (s : State) (b : Bay) (c : Calib) : OthersKept s (s.setCalib b c) b := by
  intro d hd
  cases hv : c.valid with
  | true =>
    rw [setCalib_valid hv, calibrated_bay_other s c hd]
    exact SameButSchedule.refl _
  | false =>
    have hpass := passCheck_scheduled (s.decalibrated b c) d
    have hbefore : (s.decalibrated b c).bay d = s.bay d := calibrated_bay_other s c hd
    rw [setCalib_invalid hv, ← hbefore]
    exact hpass

/-- Without an invalid calibration for a run in progress, the run, the replies and the other bays stay. -/
theorem setCalib_quiet {c : Calib} (h : c.valid = true ∨ s.run = none) :
    (s.setCalib b c).run = s.run ∧ (s.setCalib b c).replies = s.replies ∧
      ∀ d, d ≠ b → (s.setCalib b c).bay d = s.bay d := by
  have hset : s.setCalib b c = s.calibrated b c ∨ s.setCalib b c = s.decalibrated b c ∧ s.run = none := by
    cases hv : c.valid with
    | true => exact .inl (setCalib_valid hv)
    | false =>
      have hrun : s.run = none := h.resolve_left (by rw [hv]; exact Bool.false_ne_true)
      refine .inr ⟨?_, hrun⟩
      rw [setCalib_invalid hv, passCheck_none (by rw [State.decalibrated, hrun]; rfl)]
  have hcal : (s.calibrated b c).run = s.run ∧ (s.calibrated b c).replies = s.replies := by
    rw [calibrated_frame]
    exact ⟨rfl, rfl⟩
  rcases hset with hset | ⟨hset, hrun⟩
  · rw [hset]
    exact ⟨hcal.1, hcal.2, fun d hd => calibrated_bay_other s c hd⟩
  · rw [hset]
    exact ⟨by rw [State.decalibrated, hrun]; rfl, hcal.2, fun d hd => calibrated_bay_other s c hd⟩

/-- An invalid calibration ends a waiting membership, and the run goes on (R153). -/
theorem setCalib_goesOn {c : Calib} {run : SurveyRun} (h : c.valid = false) (hr : s.run = some run) :
    RunGoesOn s (run.without b false) (s.setCalib b c) := by
  have hreplies : (s.calibrated b c).replies = s.replies := by rw [calibrated_frame]
  rw [setCalib_invalid h, ← without_eq]
  refine passCheck_goesOn ?_ hreplies
  show (s.run.map fun x => x.skipMember b) = _
  rw [hr]
  rfl

/-- When a SENSE_SET makes a survey wanted (R140, R143). -/
theorem senseWants_iff (s : State) (b : Bay) (c : Calib) :
    s.senseWants b c = true ↔ (s.bay b).phase.active? ≠ none ∧
      (c.empty ≠ c.full ∧
          ((∃ x, s.converter = some x ∧ x.channel = bayChannel b) ∨
            (s.bayCfg b).calib.empty = (s.bayCfg b).calib.full) ∨
        ∃ ms, (s.bay b).surveyTimer = some ms ∧ c.period ≤ ms) := by
  have hconverting : s.converting b = true ↔ ∃ x, s.converter = some x ∧ x.channel = bayChannel b := by
    unfold State.converting
    cases s.converter <;> simp
  have htimer : (match (s.bay b).surveyTimer with
      | some t => decide (c.period ≤ t)
      | none => false) = true ↔ ∃ ms, (s.bay b).surveyTimer = some ms ∧ c.period ≤ ms := by
    cases (s.bay b).surveyTimer <;> simp
  have hwants : s.senseWants b c = (s.isActive b && ((c.valid && (s.converting b || !(s.bayCfg b).calib.valid)) ||
      match (s.bay b).surveyTimer with
      | some t => decide (c.period ≤ t)
      | none => false)) := rfl
  rw [hwants, Bool.and_eq_true, Bool.or_eq_true, Bool.and_eq_true, Bool.or_eq_true, htimer, hconverting,
    calib_valid_iff, Bool.not_eq_true', calib_invalid_iff, State.isActive, Option.isSome_iff_ne_none]

end

/-- Settles O25: `setCalib` and then the trigger of the store writer, which touches the writer alone. -/
theorem senseSetCalibrates : Obligations.SenseSetCalibrates := by
  intro s r rest b e f m n p h he hf hm hn hp hb c
  have hbay : r.body = toBytes 1 b.val ++ (toBytes 2 e ++ toBytes 2 f ++ toBytes 2 m ++ toBytes 1 n ++ toBytes 2 p) := by
    simpa only [List.append_assoc] using hb
  have hlen : r.body.length = 10 := by simp [hb]
  have hexec := exec_senseSet_bay (c := c) h hlen hbay (calib_laid_out he hf hm hn hp hb)
  rw [calib_body] at hexec
  clear_value c
  refine ⟨_, hexec, ?_⟩
  have hframe := setCalib_frame (s.dequeued rest) b c
  have hown := setCalib_bay (s.dequeued rest) b c
  have hothers := setCalib_others (s.dequeued rest) b c
  have hquiet := setCalib_quiet (s := s.dequeued rest) (b := b) (c := c)
  have hgoes : ∀ run, c.empty = c.full → s.run = some run →
      RunGoesOn (s.dequeued rest) (run.without b false) ((s.dequeued rest).setCalib b c) :=
    fun run hc hr => setCalib_goesOn ((calib_invalid_iff c).mpr hc) hr
  have hcfg : ∀ d, ((s.dequeued rest).modBayCfg b fun x => { x with calib := c }).bayCfg d =
      if b = d then { s.bayCfg b with calib := c } else s.bayCfg d :=
    fun d => bayCfg_modBayCfg (s.dequeued rest) b d fun x => { x with calib := c }
  generalize (s.dequeued rest).setCalib b c = u at hframe hown hothers hquiet hgoes ⊢
  have hchanged := settingsChanged_frame u
  have hbays : ∀ d, u.settingsChanged.bay d = u.bay d := settingsChanged_bay u
  have hrun : u.settingsChanged.run = u.run := by rw [hchanged]
  have hreplies : u.settingsChanged.replies = u.replies := by rw [hchanged]
  have hsettings : u.settings = ((s.dequeued rest).modBayCfg b fun x => { x with calib := c }).settings := by rw [hframe]
  have hcfgs : ∀ d, u.settingsChanged.bayCfg d = if b = d then { s.bayCfg b with calib := c } else s.bayCfg d :=
    fun d => (settingsChanged_bayCfg u d).trans
      ((congrArg (fun x => x.bays[d]) hsettings).trans (hcfg d))
  have hphase : ∀ d, (u.bay d).phase = (s.bay d).phase := fun d => by
    by_cases hd : d = b
    · rw [hd, hown]
      rfl
    · exact (hothers d hd).phase
  refine ⟨?_, ?_, ?_, fun d hd => ?_, fun d => ?_, ?_, ?_, fun d hd => ?_, ?_, fun hq => ?_, fun run hc hr => ?_⟩
  · generalize u.settingsChanged = v at hchanged ⊢
    rw [hchanged, hframe]
    rfl
  · rw [show u.settingsChanged.settings = u.settings by rw [hchanged], hsettings]
    rfl
  · rw [hcfgs, if_pos rfl]
  · rw [hcfgs, if_neg hd.symm]
  · rw [hbays, hphase]
  · rw [show u.settingsChanged.converter = u.converter by rw [hchanged], hframe]
    rfl
  · rw [hbays, hown]
    rfl
  · rw [hbays]
    exact hothers d hd
  · rw [hbays, hown]
    show ((s.bay b).wanted || (s.dequeued rest).senseWants b c) = true ↔ _
    rw [Bool.or_eq_true, senseWants_iff]
    rfl
  · obtain ⟨hqrun, hqreplies, hqbays⟩ := hquiet (hq.imp_left (calib_valid_iff c).mpr)
    exact ⟨hrun.trans hqrun, hreplies.trans hqreplies, fun d hd => (hbays d).trans (hqbays d hd)⟩
  · have hsurvey : ∀ d, u.settingsChanged.surveyable d = u.surveyable d := fun d =>
      surveyable_congr (congrArg BayRec.phase (hbays d)) (settingsChanged_bayCfg u d)
    exact RunGoesOn.congr (hgoes run hc hr) hrun hreplies hsurvey fun d => congrArg BayRec.wanted (hbays d)

end Sys2Proof.Machine

/-! SURVEY_RUN (R152 to R154): how a run forms, and how a conversion, a removal and a BAY_RECHECK lead it on. -/

namespace Sys2Proof.Machine

section

variable {s : State} {r : Request} {rest : List Request} {b : Bay}

/-! ### The run forms (R152) -/

/-- The state in which the first pass of a SURVEY_RUN starts. -/
def State.runFormed (s : State) (named passes : Nat) (ticket : Byte) : State :=
  { s with run := some (SurveyRun.formed (baySetOf named) (max 1 passes) ticket) }

theorem exec_surveyRun_taking {named passes : Nat} (hn : named < 65536) (hp : passes < 256)
    (h : Taking s .surveyRun r rest) (hb : r.body = toBytes 2 named ++ toBytes 1 passes) :
    exec .surveyRun s = .next
      (if s.run = none then
        (State.startPasses (max 1 passes) ((s.dequeued rest).runFormed named passes r.ticket)).settleConverter
      else s.answered rest (r.answer .busy [])) := by
  have hword : r.wordAt 0 = named := by
    unfold Request.wordAt
    rw [hb, field_front]
    exact Nat.mod_eq_of_lt hn
  have hbyte : r.byteAt 2 = passes := by
    unfold Request.byteAt
    rw [hb, field_after_toBytes _ _ _ le_rfl, field_all]
    exact Nat.mod_eq_of_lt hp
  show execSurveyRun s = _
  rw [execSurveyRun, take_taking h (by simp [hb, ReqKind.lengthOk]), hword, hbyte]
  cases hrun : s.run with
  | none =>
    rw [if_pos rfl, show (s.dequeued rest).run = none from hrun]
    rfl
  | some x =>
    rw [if_neg (Option.some_ne_none x), show (s.dequeued rest).run = some x from hrun]
    rfl

/-- Every bay that a forming run skips, where it finds none to survey. -/
theorem formed_allSkipped_body {named passes : Nat} (ticket : Byte) :
    (SurveyRun.formed (baySetOf named) (max 1 passes) ticket).allSkipped.body =
      toBytes 1 (max 1 passes) ++ toBytes 2 (named % 4096) ++ List.replicate 48 0xFF := by
  have hskipped : (SurveyRun.formed (baySetOf named) (max 1 passes) ticket).allSkipped.skipped = baySetOf named :=
    baySet_ext fun b => by
      rw [allSkipped_skipped]
      simp [SurveyRun.formed]
  have hresults : (SurveyRun.formed (baySetOf named) (max 1 passes) ticket).allSkipped.resultBytes =
      List.replicate 48 0xFF := rfl
  have hcount : (SurveyRun.formed (baySetOf named) (max 1 passes) ticket).allSkipped.passesRun = max 1 passes :=
    Nat.zero_add _
  rw [surveyBody_eq, hskipped, hresults, hcount, baySet_toNat_baySetOf]

/-- A run whose first pass has members. -/
theorem runFormed_starts (named passes : Nat) (h : ∃ b : Bay, named.testBit b.val = true ∧ s.surveyable b = true) :
    State.startPasses (max 1 passes) ((s.dequeued rest).runFormed named passes r.ticket) =
      ((s.dequeued rest).runFormed named passes r.ticket).startPass
        (SurveyRun.formed (baySetOf named) (max 1 passes) r.ticket) := by
  obtain ⟨b, hnamed, hsurvey⟩ := h
  exact startPasses_members (r := SurveyRun.formed (baySetOf named) (max 1 passes) r.ticket) rfl
    (Nat.lt_of_lt_of_le Nat.one_pos (le_max_left 1 passes))
    ⟨b, (baySetOf_get named b).trans hnamed, hsurvey⟩

/-- A run that finds no bay to survey ends at its take. -/
theorem runFormed_ends (named passes : Nat) (h : Taking s .surveyRun r rest) (hrun : s.run = none)
    (hnone : ∀ b : Bay, named.testBit b.val = true → s.surveyable b = false) :
    State.startPasses (max 1 passes) ((s.dequeued rest).runFormed named passes r.ticket) =
      s.answered rest
        (r.answer .ok (toBytes 1 (max 1 passes) ++ toBytes 2 (named % 4096) ++ List.replicate 48 0xFF)) := by
  obtain ⟨-, -, hkind⟩ := h
  have hends := startPasses_ends (s := (s.dequeued rest).runFormed named passes r.ticket)
    (r := SurveyRun.formed (baySetOf named) (max 1 passes) r.ticket) rfl
    (.inr fun b hb => hnone b ((baySetOf_get named b).symm.trans hb))
  rw [formed_allSkipped_body] at hends
  refine hends.trans ?_
  have hcut : ({ (s.dequeued rest).runFormed named passes r.ticket with run := none } : State) = s.dequeued rest := by
    rw [show s.dequeued rest = { s.dequeued rest with run := none } by rw [← show (s.dequeued rest).run = none from hrun]]
    rfl
  rw [hcut]
  unfold Request.answer
  rw [hkind]
  rfl

theorem surveyRun_members (run : SurveyRun) (u : State) (named passes : Nat) (ticket : Byte) (b : Bay)
    (hrun : run = (SurveyRun.formed (baySetOf named) (max 1 passes) ticket).passStarted u.surveyable) :
    run.listed[b] = named.testBit b.val ∧ run.results[b] = none ∧
      run.members[b] = (if named.testBit b.val && u.surveyable b then some false else none) ∧
      run.skipped[b] = (named.testBit b.val && !u.surveyable b) := by
  have hlisted : (SurveyRun.formed (baySetOf named) (max 1 passes) ticket).listed[b] = named.testBit b.val :=
    baySetOf_get named b
  have hskipped : (SurveyRun.formed (baySetOf named) (max 1 passes) ticket).skipped[b] = false := by
    simp [SurveyRun.formed]
  subst hrun
  refine ⟨hlisted, ?_, ?_, ?_⟩
  · simp [SurveyRun.passStarted, SurveyRun.formed]
  · rw [passStarted_members, hlisted]
  · rw [passStarted_skipped, hlisted, hskipped, Bool.false_or]

/-! ### What leads a run on (R153, R154) -/

/-- The binding a bay reading is judged against, if it is kept (R137, R145). -/
def State.keptReading (s : State) (b : Bay) (discard : Bool) : Option Binding :=
  if discard then none else (s.bay b).phase.active?

/-- A kept bay reading, judged as a survey. -/
def State.readingJudged (s : State) (b : Bay) (kept : Option Binding) (raw : Nat) : State :=
  match kept with
  | some bd => s.survey b bd raw
  | none => s

/-- The survey timer of an ACTIVE bay starts anew (R140). -/
def State.surveyTimed (s : State) (b : Bay) : State :=
  if s.isActive b then s.modBay b fun r => { r with surveyTimer := some 0 } else s

theorem bayReading_eq (s : State) (b : Bay) (discard : Bool) (raw : Nat) :
    s.bayReading b discard raw = State.passCheck
      { (s.readingJudged b (s.keptReading b discard) raw).surveyTimed b with
        run := ((s.readingJudged b (s.keptReading b discard) raw).surveyTimed b).run.map fun r =>
          r.conversionEnded b ((s.keptReading b discard).map fun _ => (raw, sensedLevel (s.bayCfg b).calib raw)) } :=
  rfl

theorem readingJudged_only (s : State) (b : Bay) (kept : Option Binding) (raw : Nat) :
    ActsOnly b s (s.readingJudged b kept raw) := by
  cases kept with
  | none => exact ActsOnly.refl s
  | some bd => exact survey_only s b bd raw

theorem surveyTimed_only (s : State) (b : Bay) : ActsOnly b s (s.surveyTimed b) := by
  unfold State.surveyTimed
  split
  · exact modBay_only s b _
  · exact ActsOnly.refl s

theorem timedReading_only (s : State) (b : Bay) (kept : Option Binding) (raw : Nat) :
    ActsOnly b s ((s.readingJudged b kept raw).surveyTimed b) :=
  (readingJudged_only s b kept raw).trans (surveyTimed_only _ b)

/-- The reading of a bay's channel ends the member taken for it, and the run goes on. -/
theorem bayReading_goesOn {run : SurveyRun} (discard : Bool) (raw : Nat) (hrun : s.run = some run) :
    RunGoesOn s
      (run.conversionEnded b ((s.keptReading b discard).map fun _ => (raw, sensedLevel (s.bayCfg b).calib raw)))
      (s.bayReading b discard raw) := by
  have honly := timedReading_only s b (s.keptReading b discard) raw
  rw [bayReading_eq]
  generalize (s.readingJudged b (s.keptReading b discard) raw).surveyTimed b = u at honly ⊢
  exact passCheck_goesOn (by rw [honly.run, hrun]; rfl) honly.replies

/-- The record after a conversion, written out (R153). -/
theorem conversionEnded_eq (run : SurveyRun) (s : State) (b : Bay) (discard : Bool) (result : Nat × Nat) :
    run.conversionEnded b ((s.keptReading b discard).map fun _ => result) =
      if run.members[b] = some true then
        { run with
          members := put run.members b none
          results :=
            if discard = false ∧ (s.bay b).phase.active? ≠ none then put run.results b (some result) else run.results }
      else run := by
  unfold SurveyRun.conversionEnded State.keptReading
  cases discard with
  | true => simp
  | false => cases (s.bay b).phase.active? <;> simp

theorem exec_conversionComplete_bay (raw : BitVec 10) {discard : Bool}
    (h : s.converter = some { channel := bayChannel b, discard := discard }) :
    exec (.conversionComplete raw) s =
      .next (State.bayReading { s with converter := none } b discard raw.toNat).settleConverter := by
  show Host.Outcome.next (s.conversionComplete raw.toNat) = _
  unfold State.conversionComplete
  rw [h]
  exact congrArg Host.Outcome.next (dif_pos b.isLt)

/-- An ACTIVE bay with no release in progress leaves its state, and the run goes on without it. -/
theorem leavePhase_goesOn {bd : Binding} {run : SurveyRun} (hp : (s.bay b).phase = .active bd)
    (hrel : bd.commit.release = none) (hrun : s.run = some run) (next : Phase) (removed : Bool) :
    RunGoesOn s (run.without b removed) ((s.abandon b).leavePhase b next removed) := by
  have hphase : ((s.abandon b).bay b).phase = .active bd := by rw [abandon_bay]; exact hp
  have hbound : ((s.abandon b).bay b).phase.binding? = some bd := by rw [hphase]; rfl
  have hactive : (s.abandon b).isActive b = true := by rw [State.isActive, hphase]; rfl
  obtain ⟨-, -, hreplies, hkept⟩ := closeBinding_rest (s.abandon b) b bd next
  unfold State.leavePhase
  rw [hbound]
  dsimp only
  rw [unbind_eq hbound, hactive]
  unfold State.answerRelease
  rw [hrel]
  exact leftActive_goesOn (u := ((s.abandon b).closeBinding b bd next).evalLine b) (hkept.trans hrun) hreplies

end

/-- Settles O36. -/
theorem surveyRunStarts : Obligations.SurveyRunStarts := by
  intro s r rest
  refine ⟨fun named passes h hn hp hb => ⟨fun hrun => ?_, fun hrun hsome => ?_, fun hrun hnone => ?_⟩,
    fun raw b discard run hrun hconv => ?_, fun b ms bd run hrun hp hrel hw hms => ?_,
    fun b bd run h hb hrun hp hrel => ?_⟩
  · rw [exec_surveyRun_taking hn hp h hb, if_neg hrun]
  · have hstart := runFormed_starts (r := r) (rest := rest) named passes hsome
    refine ⟨((s.dequeued rest).runFormed named passes r.ticket).startPass
        (SurveyRun.formed (baySetOf named) (max 1 passes) r.ticket), _,
      by rw [exec_surveyRun_taking hn hp h hb, if_pos hrun, hstart], startPass_run, rfl, rfl, rfl, rfl, fun b => ?_⟩
    obtain ⟨hlisted, hresults, hmembers, hskipped⟩ := surveyRun_members _
      ((s.dequeued rest).runFormed named passes r.ticket) named passes r.ticket b rfl
    refine ⟨hlisted, hresults, hmembers, hskipped, ?_, (startPass_scheduled _ _ b).phase⟩
    rw [startPass_bay]
    show ((s.bay b).wanted || ((baySetOf named)[b] && s.surveyable b)) = _
    rw [baySetOf_get]
  · exact ⟨_, by rw [exec_surveyRun_taking hn hp h hb, if_pos hrun, runFormed_ends named passes h hrun hnone], rfl⟩
  · have hgoes := bayReading_goesOn (s := { s with converter := none }) (b := b) discard raw.toNat hrun
    rw [conversionEnded_eq] at hgoes
    exact ⟨_, exec_conversionComplete_bay raw hconv, hgoes⟩
  · have hphase : ((s.filtered b .absent).bay b).phase = .active bd := by rw [filtered_bay]; exact hp
    have hgoes := leavePhase_goesOn (s := s.filtered b .absent) hphase hrel hrun .vacant true
    have hremoval := removal_full (s := s.filtered b .absent) (b := b) (by rw [hphase]; nofun) (by rw [hphase]; nofun)
    have hclose : s.closeWindow b .absent = (s.filtered b .absent).removal b := closeWindow_eq s b .absent
    rw [hremoval] at hclose
    refine ⟨_, exec_presenceWindowExpiry_late hw hms, ?_⟩
    rw [hclose]
    generalize ((s.filtered b .absent).abandon b).leavePhase b .vacant true = u at hgoes ⊢
    have hlatch := latch_only u b (baySite b) .vacated
    exact RunGoesOn.congr (s := s) hgoes hlatch.run hlatch.replies
      (fun c => surveyable_congr (congrArg BayRec.phase (latch_bay u _ _ c)) (hlatch.bayCfg c))
      fun c => congrArg BayRec.wanted (latch_bay u _ _ c)
  · have hgoes := leavePhase_goesOn (s := s.dequeued rest) hp hrel hrun .identifying false
    have hcan : (s.bay b).phase.canRecheck = true := by rw [hp]; rfl
    refine ⟨_, by rw [exec_bayRecheck_bay h hb, if_pos hcan], ?_⟩
    rw [recheck_eq]
    generalize ((s.dequeued rest).abandon b).leavePhase b .identifying false = u at hgoes ⊢
    have hplaced : ∀ c, ((u.modBay b fun x => { x with slot := some .identify }).bay c).phase = (u.bay c).phase ∧
        ((u.modBay b fun x => { x with slot := some .identify }).bay c).wanted = (u.bay c).wanted := fun c => by
      by_cases hc : c = b
      · rw [hc, bay_modBay_same]
        exact ⟨rfl, rfl⟩
      · rw [bay_modBay_other u hc]
        exact ⟨rfl, rfl⟩
    exact RunGoesOn.congr (s := s) hgoes rfl rfl (fun c => surveyable_congr (hplaced c).1 rfl) fun c => (hplaced c).2

end Sys2Proof.Machine

/-! Evidence (R148) and the judgement of readings (R144 to R147, R150): what evidence leaves in a bay, its entry and the
latches, and what a survey makes of a reading. -/

namespace Sys2Proof.Machine

/-! ### Evidence (R148) -/

/-- A binding once evidence of a kind has joined its set, which holds each kind once. -/
def Binding.withEvidence (bd : Binding) (k : EvidenceKind) : Binding :=
  { bd with evidence := if bd.evidence.contains k then bd.evidence else bd.evidence ++ [k] }

theorem mem_withEvidence {bd : Binding} {k j : EvidenceKind} :
    j ∈ (bd.withEvidence k).evidence ↔ j ∈ bd.evidence ∨ j = k := by
  unfold Binding.withEvidence
  dsimp only
  split
  · next h => exact ⟨.inl, fun hj => hj.elim id fun hk => hk ▸ List.contains_iff_mem.mp h⟩
  · simp

section

variable {s : State} {b : Bay} {bd : Binding} {k : EvidenceKind}

theorem addEvidence_known (h : (s.bay b).phase = .active bd) (hk : bd.evidence.contains k = true) :
    s.addEvidence b k = s := by
  unfold State.addEvidence
  rw [h]
  exact if_pos hk

/-- The state once the first evidence has joined and the entry has its mark. -/
def State.evidenceMarked (s : State) (b : Bay) (k : EvidenceKind) : State :=
  let joined := s.modBinding b fun bd => { bd with evidence := bd.evidence ++ [k] }
  (joined.flushTable (joined.withEntry b (Entry.markRefilled k))).latch (baySite b) .refill

theorem addEvidence_first (h : (s.bay b).phase = .active bd) (he : bd.evidence = []) :
    s.addEvidence b k = (s.evidenceMarked b k).evalLine b := by
  unfold State.addEvidence
  rw [h]
  dsimp only [Phase.binding?]
  rw [he]
  rfl

theorem addEvidence_further (h : (s.bay b).phase = .active bd) (hk : bd.evidence.contains k = false)
    (he : bd.evidence ≠ []) :
    s.addEvidence b k = s.modBinding b fun bd => { bd with evidence := bd.evidence ++ [k] } := by
  unfold State.addEvidence
  rw [h]
  dsimp only [Phase.binding?]
  rw [if_neg (by rw [hk]; exact Bool.false_ne_true), if_neg (by simpa using he)]

theorem withEvidence_joined (hk : bd.evidence.contains k = false) :
    bd.withEvidence k = { bd with evidence := bd.evidence ++ [k] } := by
  unfold Binding.withEvidence
  rw [if_neg (by rw [hk]; exact Bool.false_ne_true)]

/-- Evidence changes its binding's set, and may change the line. -/
theorem addEvidence_bay (h : (s.bay b).phase = .active bd) :
    (s.addEvidence b k).bay b =
      { s.bay b with phase := .active (bd.withEvidence k), line := ((s.addEvidence b k).bay b).line } := by
  cases hk : bd.evidence.contains k with
  | true =>
    have hsame : bd.withEvidence k = bd := by
      unfold Binding.withEvidence
      rw [if_pos hk]
    rw [addEvidence_known h hk, hsame, ← h]
  | false =>
    have hjoined := modBinding_active h fun x => { x with evidence := x.evidence ++ [k] }
    rw [withEvidence_joined hk]
    by_cases he : bd.evidence = []
    · have hmarked : (s.evidenceMarked b k).bay b =
          { s.bay b with phase := .active { bd with evidence := bd.evidence ++ [k] } } := by
        unfold State.evidenceMarked
        dsimp only
        rw [latch_bay, flushTable_bay, hjoined]
      rw [addEvidence_first h he, evalLine_bay, hmarked]
    · rw [addEvidence_further h hk he, hjoined]

theorem addEvidence_phase (h : (s.bay b).phase = .active bd) :
    ((s.addEvidence b k).bay b).phase = .active (bd.withEvidence k) := by
  rw [addEvidence_bay h]

/-- The first evidence latches REFILL. -/
theorem addEvidence_latched (h : (s.bay b).phase = .active bd) (he : bd.evidence = []) :
    (s.addEvidence b k).latchOf (baySite b) Kind.refill.code ≠ none := by
  rw [addEvidence_first h he]
  exact (evalLine_only (s.evidenceMarked b k) b).latched _ _ (latch_set _ _ _)

end

/-! ### Readings of a lane's channel (R150) -/

section

variable {s : State} {l : Lane}

theorem exec_conversionComplete_none (raw : BitVec 10) (h : s.converter = none) :
    exec (.conversionComplete raw) s = .next s := by
  show Host.Outcome.next (s.conversionComplete raw.toNat) = _
  unfold State.conversionComplete
  rw [h]

theorem exec_conversionComplete_lane (raw : BitVec 10) {discard : Bool}
    (h : s.converter = some { channel := laneChannel l, discard := discard }) :
    exec (.conversionComplete raw) s =
      .next (State.laneReading { s with converter := none } l raw.toNat).settleConverter := by
  have hchannel : ¬(laneChannel l).val < 12 := by simp [laneChannel]
  have hlane : (⟨(laneChannel l).val - 12, by omega⟩ : Lane) = l := Fin.ext (Nat.add_sub_cancel_left 12 l.val)
  show Host.Outcome.next (s.conversionComplete raw.toNat) = _
  unfold State.conversionComplete
  rw [h]
  dsimp only
  rw [dif_neg hchannel, hlane]

/-- The lane's record and the latch of a supply reading, before the arbiter (R150). -/
def State.supplyRead (s : State) (l : Lane) (raw : Nat) : State :=
  let checked := s.modLane l fun r =>
    { r with
      writeHold := holdAfter (s.lane l).writeHold s.settings.holdRaw raw, lastSupply := some raw, supplyTimer := some 0 }
  if holdAfter (s.lane l).writeHold s.settings.holdRaw raw && !(s.lane l).writeHold then
    checked.latch (laneSite l) .laneHold
  else checked

theorem laneReading_eq (s : State) (l : Lane) (raw : Nat) :
    s.laneReading l raw =
      if (s.lane l).writeHold ∧ holdAfter (s.lane l).writeHold s.settings.holdRaw raw = false then
        (s.supplyRead l raw).arbitrate l
      else s.supplyRead l raw := by
  unfold State.laneReading
  dsimp only
  rw [show (s.supplyRead l raw) = _ from rfl, State.supplyRead]
  simp only [Bool.and_eq_true, Bool.not_eq_true']

theorem supplyRead_lane (s : State) (l : Lane) (raw : Nat) :
    (s.supplyRead l raw).lane l = { s.lane l with
      writeHold := holdAfter (s.lane l).writeHold s.settings.holdRaw raw, lastSupply := some raw
      supplyTimer := some 0 } := by
  unfold State.supplyRead
  dsimp only
  split
  · rw [latch_lane, lane_modLane_same]
  · rw [lane_modLane_same]

theorem supplyRead_lane_other (s : State) {l m : Lane} (h : m ≠ l) (raw : Nat) :
    (s.supplyRead l raw).lane m = s.lane m := by
  unfold State.supplyRead
  dsimp only
  split
  · rw [latch_lane, lane_modLane_other _ h]
  · rw [lane_modLane_other _ h]

theorem supplyRead_frame (s : State) (l : Lane) (raw : Nat) :
    s.supplyRead l raw =
      { s with lanes := (s.supplyRead l raw).lanes, latches := (s.supplyRead l raw).latches } := by
  unfold State.supplyRead
  dsimp only
  split
  · rw [latch_frame]
    rfl
  · rfl

theorem supplyRead_latched (raw : Nat) (hafter : holdAfter (s.lane l).writeHold s.settings.holdRaw raw = true)
    (hbefore : (s.lane l).writeHold = false) :
    (s.supplyRead l raw).latchOf (laneSite l) Kind.laneHold.code ≠ none := by
  unfold State.supplyRead
  dsimp only
  rw [if_pos (by rw [hafter, hbefore]; rfl)]
  exact latch_set _ _ _

theorem supplyRead_latches (raw : Nat)
    (h : holdAfter (s.lane l).writeHold s.settings.holdRaw raw = false ∨ (s.lane l).writeHold = true) :
    (s.supplyRead l raw).latches = s.latches := by
  unfold State.supplyRead
  dsimp only
  rw [if_neg (by rcases h with h | h <;> simp [h])]
  rfl

end

/-! ### The sensed level (R144) -/

theorem sensedLevel_int (c : Calib) (raw : Nat) (h : c.empty ≠ c.full) :
    let num : Int := if c.empty < c.full then ((raw : Int) - c.empty) * 1000 else ((c.empty : Int) - raw) * 1000
    let den : Int := if c.empty < c.full then (c.full : Int) - c.empty else (c.empty : Int) - c.full
    (num ≤ 0 → sensedLevel c raw = 0) ∧
      (0 < num → (sensedLevel c raw : Int) = min 1000 ((2 * num + den) / (2 * den))) := by
  intro num den
  have hden : 0 < den := by
    show 0 < ite _ _ _
    split <;> omega
  have hlevel : sensedLevel c raw =
      if num ≤ 0 then 0 else min 1000 ((2 * num.toNat + den.toNat) / (2 * den.toNat)) := by
    unfold sensedLevel
    by_cases hlt : c.empty < c.full
    · have hpos : ¬(c.full : Int) - c.empty < 0 := by omega
      simp only [num, den, hlt, hpos, if_true, if_false]
    · have hneg : (c.full : Int) - c.empty < 0 := by omega
      have hnum : -(((raw : Int) - c.empty) * 1000) = ((c.empty : Int) - raw) * 1000 := by ring
      have hden' : -((c.full : Int) - c.empty) = (c.empty : Int) - c.full := by ring
      simp only [num, den, hlt, hneg, if_true, if_false, hnum, hden']
  clear_value num den
  rw [hlevel]
  refine ⟨fun hn => if_pos hn, fun hn => ?_⟩
  rw [if_neg (Int.not_le.mpr hn)]
  obtain ⟨n, rfl⟩ := Int.eq_ofNat_of_zero_le hn.le
  obtain ⟨d, rfl⟩ := Int.eq_ofNat_of_zero_le hden.le
  simp

/-! ### The steps of a survey (R145 to R147) -/

section

variable {s : State} {b : Bay} {bd : Binding}

/-- Evidence that joins on a condition. -/
def State.evidenceIf (s : State) (b : Bay) (k : EvidenceKind) (c : Bool) : State := if c then s.addEvidence b k else s

/-- The binding that evidence on a condition leaves. -/
def Binding.evidenceIf (bd : Binding) (k : EvidenceKind) (c : Bool) : Binding := if c then bd.withEvidence k else bd

theorem evidenceIf_only (s : State) (b : Bay) (k : EvidenceKind) (c : Bool) : ActsOnly b s (s.evidenceIf b k c) := by
  cases c with
  | true => exact addEvidence_only s b k
  | false => exact ActsOnly.refl s

theorem evidenceIf_bay (h : (s.bay b).phase = .active bd) (k : EvidenceKind) (c : Bool) :
    (s.evidenceIf b k c).bay b =
      { s.bay b with phase := .active (bd.evidenceIf k c), line := ((s.evidenceIf b k c).bay b).line } := by
  cases c with
  | true => exact addEvidence_bay h
  | false =>
    show s.bay b = { s.bay b with phase := .active bd }
    rw [← h]

theorem evidenceIf_latched (h : (s.bay b).phase = .active bd) (he : bd.evidence = []) {k : EvidenceKind} {c : Bool}
    (hnew : (bd.evidenceIf k c).evidence ≠ []) :
    (s.evidenceIf b k c).latchOf (baySite b) Kind.refill.code ≠ none := by
  cases c with
  | true => exact addEvidence_latched h he
  | false => exact absurd he hnew

theorem mem_evidenceIf {k j : EvidenceKind} {c : Bool} :
    j ∈ (bd.evidenceIf k c).evidence ↔ j ∈ bd.evidence ∨ j = k ∧ c = true := by
  cases c with
  | true => simp [Binding.evidenceIf, mem_withEvidence]
  | false => simp [Binding.evidenceIf]

theorem evidenceIf_kept (bd : Binding) (k : EvidenceKind) (c : Bool) :
    (bd.evidenceIf k c).acct = bd.acct ∧ (bd.evidenceIf k c).ink = bd.ink ∧ (bd.evidenceIf k c).commit = bd.commit := by
  cases c <;> exact ⟨rfl, rfl, rfl⟩

/-- Whether the reinsert check of a bay turns out positive at a sensed level (R147). -/
def State.reinserted (s : State) (b : Bay) (bd : Binding) (sensed : Nat) : Bool :=
  bd.reinsert && (((s.table.find? fun e => e.bay = some b).bind (·.lastSensed)).map fun x =>
    decide (x + (s.bayCfg b).calib.margin ≤ sensed)).getD false

/-- Whether a sensed level lies above the expected one (R146). -/
def State.rises (s : State) (b : Bay) (bd : Binding) (sensed : Nat) : Bool :=
  decide (bd.remaining * 1000 / bd.capacity + (s.bayCfg b).calib.margin ≤ sensed)

/-- Whether a rise has reached its persist (R146). -/
def State.persists (s : State) (b : Bay) (bd : Binding) (sensed : Nat) : Bool :=
  s.rises b bd sensed && (s.bay b).counter + 1 == (s.bayCfg b).calib.persist

/-- The entry that names a bay, as the statements search for it. -/
theorem entryOf_eq (s : State) (b : Bay) : s.entryOf b = s.table.find? fun e => e.bay = some b := by
  unfold State.entryOf
  exact congrArg (fun f => s.table.find? f) (funext fun e => beq_eq_decide e.bay (some b))

theorem reinsertStep_eq (s : State) (b : Bay) (bd : Binding) (sensed : Nat) :
    s.reinsertStep b bd sensed = s.evidenceIf b .reinsertRise (s.reinserted b bd sensed) := by
  unfold State.reinsertStep State.reinserted State.evidenceIf
  rw [entryOf_eq]
  cases bd.reinsert with
  | false => rfl
  | true =>
    cases (s.table.find? fun e => e.bay = some b).bind (·.lastSensed) with
    | none => rfl
    | some last => simp

/-- The counter that a sensed level leaves (R146). -/
def State.counted (s : State) (b : Bay) (bd : Binding) (sensed : Nat) : State :=
  s.modBay b fun r =>
    { r with counter := if s.rises b bd sensed && !s.persists b bd sensed then r.counter + 1 else 0 }

theorem counterStep_eq (s : State) (b : Bay) (bd : Binding) (sensed : Nat) :
    s.counterStep b bd sensed =
      (s.counted b bd sensed).evidenceIf b .levelRise (s.persists b bd sensed) := by
  unfold State.counterStep State.counted State.evidenceIf State.persists State.rises Binding.expectedLevel
  by_cases hrise : bd.remaining * 1000 / bd.capacity + (s.bayCfg b).calib.margin ≤ sensed
  · rw [if_pos hrise]
    by_cases hpersist : (s.bay b).counter + 1 = (s.bayCfg b).calib.persist
    · simp [hrise, hpersist]
    · simp [hrise, hpersist]
  · rw [if_neg hrise]
    simp [hrise]

/-- The state once both checks of a survey have run. -/
def State.surveyChecked (s : State) (b : Bay) (bd : Binding) (sensed : Nat) : State :=
  (s.reinsertStep b bd sensed).counterStep b bd sensed

/-- The binding that the checks of a survey leave. -/
def State.checkedBinding (s : State) (b : Bay) (bd : Binding) (sensed : Nat) : Binding :=
  (bd.evidenceIf .reinsertRise (s.reinserted b bd sensed)).evidenceIf .levelRise (s.persists b bd sensed)

theorem surveyChecked_eq (h : (s.bay b).phase = .active bd) (sensed : Nat) :
    s.surveyChecked b bd sensed =
      ((s.evidenceIf b .reinsertRise (s.reinserted b bd sensed)).modBay b fun r =>
        { r with counter := if s.rises b bd sensed && !s.persists b bd sensed then r.counter + 1 else 0 }).evidenceIf b
          .levelRise (s.persists b bd sensed) := by
  have hcfg := (evidenceIf_only s b .reinsertRise (s.reinserted b bd sensed)).bayCfg b
  have hcounter : ((s.evidenceIf b .reinsertRise (s.reinserted b bd sensed)).bay b).counter = (s.bay b).counter := by
    rw [evidenceIf_bay h]
  unfold State.surveyChecked
  rw [reinsertStep_eq, counterStep_eq]
  unfold State.counted State.persists State.rises
  rw [hcfg, hcounter]

theorem surveyChecked_bay (h : (s.bay b).phase = .active bd) (sensed : Nat) :
    ((s.surveyChecked b bd sensed).bay b).phase = .active (s.checkedBinding b bd sensed) ∧
      ((s.surveyChecked b bd sensed).bay b).counter =
        if s.rises b bd sensed && !s.persists b bd sensed then (s.bay b).counter + 1 else 0 := by
  have hfirst := evidenceIf_bay h .reinsertRise (s.reinserted b bd sensed)
  rw [surveyChecked_eq h]
  generalize s.evidenceIf b .reinsertRise (s.reinserted b bd sensed) = u at hfirst ⊢
  have hphase : ((u.modBay b fun r =>
      { r with counter := if s.rises b bd sensed && !s.persists b bd sensed then r.counter + 1 else 0 }).bay b).phase =
      .active (bd.evidenceIf .reinsertRise (s.reinserted b bd sensed)) := by
    rw [bay_modBay_same, hfirst]
  rw [evidenceIf_bay hphase, bay_modBay_same, hfirst]
  exact ⟨rfl, rfl⟩

/-- A survey that finds the first evidence latches REFILL. -/
theorem surveyChecked_latched (h : (s.bay b).phase = .active bd) (sensed : Nat) (he : bd.evidence = [])
    (hnew : (s.checkedBinding b bd sensed).evidence ≠ []) :
    (s.surveyChecked b bd sensed).latchOf (baySite b) Kind.refill.code ≠ none := by
  have hfirst := evidenceIf_bay h .reinsertRise (s.reinserted b bd sensed)
  have hlatched : (bd.evidenceIf .reinsertRise (s.reinserted b bd sensed)).evidence ≠ [] →
      (s.evidenceIf b .reinsertRise (s.reinserted b bd sensed)).latchOf (baySite b) Kind.refill.code ≠ none :=
    evidenceIf_latched h he
  rw [surveyChecked_eq h]
  generalize s.evidenceIf b .reinsertRise (s.reinserted b bd sensed) = u at hfirst hlatched ⊢
  have hphase : ((u.modBay b fun r =>
      { r with counter := if s.rises b bd sensed && !s.persists b bd sensed then r.counter + 1 else 0 }).bay b).phase =
      .active (bd.evidenceIf .reinsertRise (s.reinserted b bd sensed)) := by
    rw [bay_modBay_same, hfirst]
  by_cases hmid : (bd.evidenceIf .reinsertRise (s.reinserted b bd sensed)).evidence = []
  · exact evidenceIf_latched hphase hmid hnew
  · exact (evidenceIf_only _ b .levelRise (s.persists b bd sensed)).latched _ _ (hlatched hmid)

theorem mem_checkedBinding {sensed : Nat} {k : EvidenceKind} :
    k ∈ (s.checkedBinding b bd sensed).evidence ↔
      k ∈ bd.evidence ∨ k = .reinsertRise ∧ s.reinserted b bd sensed = true ∨
        k = .levelRise ∧ s.persists b bd sensed = true := by
  unfold State.checkedBinding
  rw [mem_evidenceIf, mem_evidenceIf, or_assoc]

theorem checkedBinding_kept (s : State) (b : Bay) (bd : Binding) (sensed : Nat) :
    (s.checkedBinding b bd sensed).acct = bd.acct ∧ (s.checkedBinding b bd sensed).ink = bd.ink ∧
      (s.checkedBinding b bd sensed).commit = bd.commit := by
  obtain ⟨hacct, hink, hcommit⟩ := evidenceIf_kept bd .reinsertRise (s.reinserted b bd sensed)
  obtain ⟨hacct', hink', hcommit'⟩ := evidenceIf_kept (bd.evidenceIf .reinsertRise (s.reinserted b bd sensed)) .levelRise
    (s.persists b bd sensed)
  exact ⟨hacct'.trans hacct, hink'.trans hink, hcommit'.trans hcommit⟩

theorem survey_eq (s : State) (b : Bay) (bd : Binding) (raw : Nat) :
    s.survey b bd raw =
      (s.surveyChecked b bd (sensedLevel (s.bayCfg b).calib raw)).lastSensedStep b
        (sensedLevel (s.bayCfg b).calib raw) := rfl

/-- The last step of a survey ends the reinsert check. -/
theorem lastSensedStep_bay (h : (s.bay b).phase = .active bd) (sensed : Nat) :
    (s.lastSensedStep b sensed).bay b = { s.bay b with phase := .active { bd with reinsert := false } } := by
  have hset : (s.setTable (s.withEntry b fun e => { e with lastSensed := some sensed })).bay b = s.bay b :=
    setTable_bay _ _ _
  unfold State.lastSensedStep
  rw [modBinding_active (by rw [hset]; exact h), hset]

/-- The last step of a survey leaves the sensed level in the bay's entry. -/
theorem lastSensedStep_table (s : State) (b : Bay) (sensed : Nat) :
    ∀ e ∈ (s.lastSensedStep b sensed).table, e.bay = some b → e.lastSensed = some sensed := by
  have htable : (s.lastSensedStep b sensed).table = s.withEntry b fun e => { e with lastSensed := some sensed } :=
    setTable_table s _
  rw [htable]
  intro e he hbay
  obtain ⟨e', -, rfl⟩ := List.mem_map.mp he
  by_cases h : e'.bay = some b
  · rw [if_pos h]
  · rw [if_neg h] at hbay
    exact absurd hbay h

/-! ### The whole reading of a bay's channel (R137, R145) -/

theorem surveyTimed_bay (s : State) (b : Bay) :
    (s.surveyTimed b).bay b = { s.bay b with surveyTimer := ((s.surveyTimed b).bay b).surveyTimer } ∧
      (s.isActive b = true → ((s.surveyTimed b).bay b).surveyTimer = some 0) := by
  unfold State.surveyTimed
  split
  · next h =>
    rw [bay_modBay_same]
    exact ⟨rfl, fun _ => rfl⟩
  · next h => exact ⟨rfl, fun ha => absurd ha h⟩

theorem surveyTimed_rest (s : State) (b : Bay) :
    (s.surveyTimed b).table = s.table ∧ (s.surveyTimed b).latches = s.latches := by
  unfold State.surveyTimed
  split <;> exact ⟨rfl, rfl⟩

/-- A reading ends with the check of the pass, which changes wanted flags, the run and the replies alone. -/
theorem bayReading_checked (s : State) (b : Bay) (discard : Bool) (raw : Nat) :
    let u := (s.readingJudged b (s.keptReading b discard) raw).surveyTimed b
    (∀ c, (s.bayReading b discard raw).bay c =
        { u.bay c with wanted := ((s.bayReading b discard raw).bay c).wanted }) ∧
      (s.bayReading b discard raw).table = u.table ∧ (s.bayReading b discard raw).latches = u.latches := by
  intro u
  have hreading := bayReading_eq s b discard raw
  change s.bayReading b discard raw = State.passCheck { u with
    run := u.run.map fun r =>
      r.conversionEnded b ((s.keptReading b discard).map fun _ => (raw, sensedLevel (s.bayCfg b).calib raw)) } at hreading
  clear_value u
  rw [hreading]
  have hframe := passCheck_frame ({ u with
    run := u.run.map fun r =>
      r.conversionEnded b ((s.keptReading b discard).map fun _ => (raw, sensedLevel (s.bayCfg b).calib raw)) } : State)
  exact ⟨fun c => passCheck_bay c, by rw [hframe], by rw [hframe]⟩

theorem bayReading_others (s : State) (b : Bay) (discard : Bool) (raw : Nat) :
    OthersKept s (s.bayReading b discard raw) b := by
  intro c hc
  have hsame := (timedReading_only s b (s.keptReading b discard) raw).others c hc
  obtain ⟨hbay, -, -⟩ := bayReading_checked s b discard raw
  rw [hbay c, hsame]
  rfl

/-- A reading that is not kept leaves every state, counter, entry and latch. -/
theorem bayReading_dropped {discard : Bool} (h : discard = true ∨ (s.bay b).phase.active? = none) (raw : Nat) :
    (∀ c, ((s.bayReading b discard raw).bay c).phase = (s.bay c).phase ∧
        ((s.bayReading b discard raw).bay c).counter = (s.bay c).counter) ∧
      (s.bayReading b discard raw).table = s.table ∧ (s.bayReading b discard raw).latches = s.latches := by
  have hkept : s.keptReading b discard = none := by
    unfold State.keptReading
    rcases h with h | h
    · rw [h]; rfl
    · rw [h]; split <;> rfl
  obtain ⟨hbay, htable, hlatches⟩ := bayReading_checked s b discard raw
  rw [hkept] at hbay htable hlatches
  obtain ⟨htable', hlatches'⟩ := surveyTimed_rest s b
  refine ⟨fun c => ?_, htable.trans htable', hlatches.trans hlatches'⟩
  have hc : ((s.surveyTimed b).bay c).phase = (s.bay c).phase ∧ ((s.surveyTimed b).bay c).counter = (s.bay c).counter := by
    by_cases hcb : c = b
    · rw [hcb, (surveyTimed_bay s b).1]
      exact ⟨rfl, rfl⟩
    · rw [(surveyTimed_only s b).others c hcb]
      exact ⟨rfl, rfl⟩
  rw [hbay c]
  exact hc

/-- The survey of an ACTIVE bay, in its bay, its entry and the latches. -/
theorem survey_surveyed (h : (s.bay b).phase = .active bd) (raw : Nat) :
    let sensed := sensedLevel (s.bayCfg b).calib raw
    ((s.survey b bd raw).bay b).phase = .active { s.checkedBinding b bd sensed with reinsert := false } ∧
      ((s.survey b bd raw).bay b).counter =
        (if s.rises b bd sensed && !s.persists b bd sensed then (s.bay b).counter + 1 else 0) ∧
      (∀ e ∈ (s.survey b bd raw).table, e.bay = some b → e.lastSensed = some sensed) ∧
      (bd.evidence = [] → (s.checkedBinding b bd sensed).evidence ≠ [] →
        (s.survey b bd raw).latchOf (baySite b) Kind.refill.code ≠ none) := by
  intro sensed
  obtain ⟨hphase, hcounter⟩ := surveyChecked_bay h sensed
  have hlatched := surveyChecked_latched h sensed
  have hsurvey : s.survey b bd raw = (s.surveyChecked b bd sensed).lastSensedStep b sensed := survey_eq s b bd raw
  rw [hsurvey]
  generalize s.surveyChecked b bd sensed = u at hphase hcounter hlatched ⊢
  rw [lastSensedStep_bay hphase]
  exact ⟨rfl, hcounter, lastSensedStep_table u b sensed,
    fun he hnew => (lastSensedStep_only u b sensed).latched _ _ (hlatched he hnew)⟩

theorem bayReading_kept (h : (s.bay b).phase = .active bd) (raw : Nat) :
    let sensed := sensedLevel (s.bayCfg b).calib raw
    ((s.bayReading b false raw).bay b).phase = .active { s.checkedBinding b bd sensed with reinsert := false } ∧
      ((s.bayReading b false raw).bay b).counter =
        (if s.rises b bd sensed && !s.persists b bd sensed then (s.bay b).counter + 1 else 0) ∧
      (∀ e ∈ (s.bayReading b false raw).table, e.bay = some b → e.lastSensed = some sensed) ∧
      (bd.evidence = [] → (s.checkedBinding b bd sensed).evidence ≠ [] →
        (s.bayReading b false raw).latchOf (baySite b) Kind.refill.code ≠ none) := by
  intro sensed
  have hkept : s.keptReading b false = some bd := active_of_phase h
  obtain ⟨hbay, htable, hlatches⟩ := bayReading_checked s b false raw
  rw [hkept, show s.readingJudged b (some bd) raw = s.survey b bd raw from rfl] at hbay htable hlatches
  obtain ⟨hphase, hcounter, hentry, hlatched⟩ := survey_surveyed h raw
  obtain ⟨htable', hlatches'⟩ := surveyTimed_rest (s.survey b bd raw) b
  have htimed := (surveyTimed_bay (s.survey b bd raw) b).1
  have hlatchOf : ∀ site k, (s.bayReading b false raw).latchOf site k = (s.survey b bd raw).latchOf site k :=
    fun site k => congrArg (·[site][k]) (hlatches.trans hlatches')
  rw [hbay b, htimed, htable, hlatchOf]
  exact ⟨hphase, hcounter, fun e he => hentry e (by rw [← htable']; exact he), hlatched⟩

/-- The survey timer of an ACTIVE bay starts anew after a reading, kept or not. -/
theorem bayReading_timer (h : (s.bay b).phase.active? ≠ none) (discard : Bool) (raw : Nat) :
    ((s.bayReading b discard raw).bay b).surveyTimer = some 0 := by
  obtain ⟨bd, hbd⟩ := Option.ne_none_iff_exists'.mp h
  have hphase := active_eq hbd
  have hactive : (s.readingJudged b (s.keptReading b discard) raw).isActive b = true := by
    cases discard with
    | true => exact Option.isSome_iff_ne_none.mpr h
    | false =>
      rw [show s.keptReading b false = some bd from hbd, State.isActive]
      show ((s.survey b bd raw).bay b).phase.active?.isSome = true
      rw [(survey_surveyed hphase raw).1]
      rfl
  rw [(bayReading_checked s b discard raw).1 b]
  exact (surveyTimed_bay _ b).2 hactive

end

/-- Settles O53. -/
theorem readingsJudged : Obligations.ReadingsJudged := by
  refine ⟨fun s raw h => exec_conversionComplete_none raw h, fun s raw l discard h => ?_,
    fun c raw h => sensedLevel_int c raw h, fun s raw b discard h => ?_⟩
  · intro hold after
    have hafter : holdAfter (s.lane l).writeHold s.settings.holdRaw raw.toNat = after := rfl
    have hexec := exec_conversionComplete_lane raw h
    rw [laneReading_eq] at hexec
    refine ⟨State.supplyRead { s with converter := none } l raw.toNat, hexec, ?_, ?_, fun m hm => ?_, fun ha hb => ?_,
      fun hq => ?_⟩
    · exact supplyRead_lane { s with converter := none } l raw.toNat
    · exact supplyRead_frame { s with converter := none } l raw.toNat
    · exact supplyRead_lane_other { s with converter := none } hm raw.toNat
    · exact supplyRead_latched (s := { s with converter := none }) raw.toNat (hafter.trans ha) hb
    · exact supplyRead_latches (s := { s with converter := none }) raw.toNat (hq.imp_left hafter.trans)
  · intro sensed
    refine ⟨_, exec_conversionComplete_bay raw h, bayReading_others { s with converter := none } b discard raw.toNat,
      fun hd => bayReading_dropped (s := { s with converter := none }) hd raw.toNat,
      fun ha => bayReading_timer (s := { s with converter := none }) ha discard raw.toNat, ?_⟩
    intro bd hd hp last margin rise reinserted persists
    rw [hd]
    obtain ⟨hphase, hcounter, hentry, hlatched⟩ := bayReading_kept (s := { s with converter := none }) hp raw.toNat
    obtain ⟨hacct, hink, hcommit⟩ := checkedBinding_kept { s with converter := none } b bd sensed
    exact ⟨hcounter, hentry, _, hphase, rfl, hacct, hink, hcommit, fun k => mem_checkedBinding, hlatched⟩

end Sys2Proof.Machine

/-! RETURN_REPORT (R87, R88, R94, R103): the credit, and the withdrawal of a queued request that it leaves without ink. -/

namespace Sys2Proof.Machine

section

variable {s : State} {r : Request} {rest : List Request} {b : Bay} {bd : Binding}

/-! ### Withdrawal (R103) -/

theorem withdraw_kept (h : (s.bay b).phase = .active bd) (hno : bd.commit.state ≠ .queued ∨ bd.acct.pending ≠ 0) :
    s.withdraw b = s := by
  unfold State.withdraw
  rw [active_of_phase h]
  exact if_neg (by simpa [Bool.and_eq_true, imp_iff_not_or] using hno)

/-- The state once a queued request has left its slot. -/
def State.requestWithdrawn (s : State) (b : Bay) : State :=
  (s.modBay b fun x => { x with slot := none }).changeCommit b fun bd => bd.setCommit .idle

theorem withdraw_queued (h : (s.bay b).phase = .active bd) (hq : bd.commit.state = .queued) (hp : bd.acct.pending = 0) :
    s.withdraw b =
      match bd.commit.release with
      | some rel => (s.requestWithdrawn b).completeRelease b rel .ok
      | none => s.requestWithdrawn b := by
  unfold State.withdraw
  rw [active_of_phase h]
  exact if_pos (by rw [hq, hp]; rfl)

theorem requestWithdrawn_bay (h : (s.bay b).phase = .active bd) :
    (s.requestWithdrawn b).bay b = { s.bay b with slot := none, phase := .active (bd.setCommit .idle) } := by
  have hslot : (s.modBay b fun x => { x with slot := none }).bay b = { s.bay b with slot := none } :=
    bay_modBay_same s b _
  unfold State.requestWithdrawn
  rw [changeCommit_active (bd := bd) (by rw [hslot]; exact h), hslot]

theorem requestWithdrawn_only (s : State) (b : Bay) : ActsOnly b s (s.requestWithdrawn b) :=
  (modBay_only s b _).trans (changeCommit_only _ b _)

theorem requestWithdrawn_unsaved (h : s.save = .none) :
    (s.requestWithdrawn b).table = s.table ∧ (s.requestWithdrawn b).writer = s.writer := by
  unfold State.requestWithdrawn
  rw [changeCommit_none (s.modBay b fun x => { x with slot := none }) b (fun bd => bd.setCommit .idle) h]
  exact ⟨rfl, rfl⟩

/-! ### The request at its take (R87) -/

theorem exec_returnReport_above (h : Taking s .returnReport r rest) (hl : r.body.length = 4)
    (habove : 11 < (r.body.headD 0).toNat) :
    exec .returnReport s = .next (s.answered rest (r.answer .badArg [])) := by
  show execReturnReport s = _
  rw [execReturnReport, take_taking h (by simp [ReqKind.lengthOk, hl]), withBay_above (by rwa [byteAt_zero])]
  rfl

theorem exec_returnReport_inactive (h : Taking s .returnReport r rest) {nl : Nat}
    (hb : r.body = toBytes 1 b.val ++ toBytes 3 nl) (ha : (s.bay b).phase.active? = none) :
    exec .returnReport s = .next (s.answered rest (r.answer .bayState [])) := by
  show execReturnReport s = _
  rw [execReturnReport, take_taking h (by simp [ReqKind.lengthOk, hb]), withBay_bay hb, dequeued_bay, ha]
  rfl

/-- The credit of an ACTIVE bay's account. -/
def State.credited (s : State) (b : Bay) (x : Nat) : State :=
  s.modBinding b fun y => { y with acct := (y.acct.credit x).1 }

theorem exec_returnReport_active (h : Taking s .returnReport r rest) {nl : Nat} (hnl : nl < 2 ^ 24)
    (hb : r.body = toBytes 1 b.val ++ toBytes 3 nl) (hp : (s.bay b).phase = .active bd) :
    let x := max 1 (min 1000000 nl) * 10 ^ 6
    exec .returnReport s = .next
      ((if (bd.acct.credit x).1 = bd.acct then ((s.dequeued rest).credited b x).withdraw b
        else (((s.dequeued rest).credited b x).withdraw b).handOn b).runArbiters.place
          (r.answer .ok (toBytes 7 (bd.acct.credit x).2 ++ toBytes 7 (x - (bd.acct.credit x).2)))) := by
  intro x
  have hfield : field r.body 1 3 = nl := by
    rw [hb, field_after_toBytes _ _ _ le_rfl, field_all]
    exact Nat.mod_eq_of_lt hnl
  have hactive : ((s.dequeued rest).bay b).phase.active? = some bd := active_of_phase hp
  have hcredit : returnCredit (field r.body 1 3) = x := by rw [hfield]; rfl
  show execReturnReport s = _
  rw [execReturnReport, take_taking h (by simp [ReqKind.lengthOk, hb]), withBay_bay hb, hactive]
  dsimp only
  rw [hcredit]
  unfold State.applyReturn
  dsimp only
  rw [handOnAll_one]
  by_cases hsame : (bd.acct.credit x).1 = bd.acct
  · rw [if_pos hsame, if_neg (by simp [hsame])]
    rfl
  · rw [if_neg hsame, if_pos (by simpa using hsame)]
    rfl

theorem credited_bay (h : (s.bay b).phase = .active bd) (x : Nat) :
    (s.credited b x).bay b = { s.bay b with phase := .active { bd with acct := (bd.acct.credit x).1 } } :=
  modBinding_active h _

/-- What a withdrawal from a credited bay does, without and with a release in progress (R103). -/
theorem withdraw_unreleased (h : (s.bay b).phase = .active bd) (hq : bd.commit.state = .queued)
    (hp : bd.acct.pending = 0) (hrel : bd.commit.release = none) : s.withdraw b = s.requestWithdrawn b := by
  rw [withdraw_queued h hq hp, hrel]

theorem withdraw_released {rel : Release} (h : (s.bay b).phase = .active bd) (hq : bd.commit.state = .queued)
    (hp : bd.acct.pending = 0) (hrel : bd.commit.release = some rel) :
    s.withdraw b = (s.requestWithdrawn b).completeRelease b rel .ok := by
  rw [withdraw_queued h hq hp, hrel]

theorem withdraw_unreleased_bay (h : (s.bay b).phase = .active bd) (hq : bd.commit.state = .queued)
    (hp : bd.acct.pending = 0) (hrel : bd.commit.release = none) :
    (s.withdraw b).bay b = { s.bay b with slot := none, phase := .active (bd.setCommit .idle) } ∧
      (s.withdraw b).replies = s.replies := by
  rw [withdraw_unreleased h hq hp hrel]
  exact ⟨requestWithdrawn_bay h, (requestWithdrawn_only s b).replies⟩

theorem withdraw_released_bay {rel : Release} (h : (s.bay b).phase = .active bd) (hq : bd.commit.state = .queued)
    (hp : bd.acct.pending = 0) (hrel : bd.commit.release = some rel) :
    (∃ bd', ((s.withdraw b).bay b).phase = .released bd' ∧ bd'.commit.state = .idle ∧ bd'.commit.release = none ∧
        bd'.acct.pending = 0 ∧ bd'.acct.fine = 0) ∧
      ((s.withdraw b).bay b).slot = none ∧ ((s.withdraw b).bay b).line = .inhibit ∧
      (s.run = none → (s.withdraw b).replies = s.replies ++ rel.reply .ok) := by
  have hidle : ((s.requestWithdrawn b).bay b).phase = .active (bd.setCommit .idle) := by rw [requestWithdrawn_bay h]
  have honly := requestWithdrawn_only s b
  obtain ⟨hreleased, hslot, hline⟩ := completeRelease_bay hidle rel .ok
  rw [withdraw_released h hq hp hrel]
  refine ⟨⟨_, hreleased, rfl, rfl, hp, rfl⟩, hslot, hline, fun hrun => ?_⟩
  rw [completeRelease_replies hidle rel .ok (honly.run.trans hrun), honly.replies]

theorem withdraw_slot (h : (s.bay b).phase = .active bd) (hq : bd.commit.state = .queued) (hp : bd.acct.pending = 0) :
    ((s.withdraw b).bay b).slot = none := by
  cases hrel : bd.commit.release with
  | none => rw [(withdraw_unreleased_bay h hq hp hrel).1]
  | some rel => exact (withdraw_released_bay h hq hp hrel).2.1

theorem withdraw_unsaved (h : (s.bay b).phase = .active bd) (hq : bd.commit.state = .queued) (hp : bd.acct.pending = 0)
    (hs : s.save = .none) : (s.withdraw b).table = s.table ∧ (s.withdraw b).writer = s.writer := by
  obtain ⟨htable, hwriter⟩ := requestWithdrawn_unsaved (b := b) hs
  cases hrel : bd.commit.release with
  | none =>
    rw [withdraw_unreleased h hq hp hrel]
    exact ⟨htable, hwriter⟩
  | some rel =>
    rw [withdraw_released h hq hp hrel]
    obtain ⟨htable', hwriter', -⟩ := completeRelease_rest (s.requestWithdrawn b) b rel .ok
    exact ⟨htable'.trans htable, hwriter'.trans hwriter⟩

end

/-- Settles O21: a withdrawal is `requestWithdrawn`, followed by the end of a release in progress. -/
theorem returnReported : Obligations.ReturnReported := by
  refine ⟨fun s r rest h hl habove => exec_returnReport_above h hl habove, fun s r rest b nl hnl h hb => ?_⟩
  intro x
  refine ⟨fun bd hp => ?_, fun ha => exec_returnReport_inactive h hb ha⟩
  have hexec := exec_returnReport_active h hnl hb hp
  have hle : (bd.acct.credit x).2 ≤ x := credit_applied_le _ _
  have hbay : ((s.dequeued rest).credited b x).bay b =
      { s.bay b with phase := .active { bd with acct := (bd.acct.credit x).1 } } :=
    credited_bay (s := s.dequeued rest) hp x
  have hothers : ∀ c, c ≠ b → ((s.dequeued rest).credited b x).bay c = s.bay c :=
    fun c hc => bay_modBay_other (s.dequeued rest) hc _
  have hframe : (s.dequeued rest).credited b x =
      { s.dequeued rest with bays := ((s.dequeued rest).credited b x).bays } := rfl
  intro credited withdrawn acct
  change credited.bay b = { s.bay b with phase := .active { bd with acct := acct } } at hbay
  change ∀ c, c ≠ b → credited.bay c = s.bay c at hothers
  change credited = { s.dequeued rest with bays := credited.bays } at hframe
  refine ⟨?_, ?_, hle, hexec⟩
  all_goals
    clear hexec hle
    clear_value acct credited
    have hphase : (credited.bay b).phase = .active { bd with acct := acct } := by rw [hbay]
  · exact fun hno => withdraw_kept hphase hno
  · refine fun hq hp0 => ⟨fun c hc => ?_, ?_, withdraw_slot hphase hq hp0, fun hs => ?_, fun hrel => ?_,
      fun rel hrel => ?_⟩
    · have hon := (withdraw_on credited b).others c hc
      rw [hothers c hc] at hon
      exact hon
    · rw [show withdrawn.lanes = credited.lanes from (withdraw_on credited b).lanes, hframe]
      rfl
    · obtain ⟨htable, hwriter⟩ := withdraw_unsaved hphase hq hp0 (by rw [hframe]; exact hs)
      exact ⟨htable.trans (by rw [hframe]; rfl), hwriter.trans (by rw [hframe]; rfl)⟩
    · obtain ⟨hown, hreplies⟩ := withdraw_unreleased_bay hphase hq hp0 hrel
      exact ⟨hown.trans (by rw [hbay]; rfl), hreplies.trans (by rw [hframe]; rfl)⟩
    · obtain ⟨hreleased, -, hline, hreplies⟩ := withdraw_released_bay hphase hq hp0 hrel
      refine ⟨hreleased, hline, fun hrun => ?_⟩
      rw [show withdrawn.replies = credited.replies ++ rel.reply .ok from hreplies (by rw [hframe]; exact hrun), hframe]
      rfl

end Sys2Proof.Machine

/-! The ends of commits and reconciles (R104 to R110, R115): what completes, what is freed, what is stopped, and what
follows with and without a release in progress. -/

namespace Sys2Proof.Machine

section

variable {s : State} {b : Bay} {bd : Binding}

/-! ### Triggers at an idle commit record -/

/-- Evaluating the triggers of an idle commit record with no release leaves it so, or queues a COMMIT (R100). -/
theorem evalStep_settled (h : (s.bay b).phase = .active bd) (hidle : bd.commit.state = .idle)
    (hrel : bd.commit.release = none) :
    ∃ record : Commit, ((s.evalStep b).bay b).phase = .active { bd with commit := record } ∧ record.release = none ∧
      (record.state = .idle ∧ ((s.evalStep b).bay b).slot = (s.bay b).slot ∨
        record.state = .queued ∧ ((s.evalStep b).bay b).slot = some .commit) := by
  unfold State.evalStep
  cases hfires : bd.fires (s.bayCfg b).commitStep with
  | true =>
    rw [evalTriggers_fires h hidle hrel hfires]
    exact ⟨_, rfl, hrel, .inr ⟨rfl, rfl⟩⟩
  | false =>
    rw [evalTriggers_quiet h (.inr (.inr hfires))]
    exact ⟨bd.commit, h, hrel, .inl ⟨hidle, rfl⟩⟩

/-- Triggers leave everything of a bay but its phase and slot. -/
theorem evalStep_bay (h : (s.bay b).phase = .active bd) :
    (s.evalStep b).bay b =
      { s.bay b with phase := ((s.evalStep b).bay b).phase, slot := ((s.evalStep b).bay b).slot } := by
  unfold State.evalStep
  by_cases hquiet : bd.commit.state ≠ .idle ∨ bd.commit.release ≠ none ∨ bd.fires (s.bayCfg b).commitStep = false
  · rw [evalTriggers_quiet h hquiet]
  · have hidle : bd.commit.state = .idle := not_not.mp fun hn => hquiet (.inl hn)
    have hrel : bd.commit.release = none := not_not.mp fun hn => hquiet (.inr (.inl hn))
    have hfires : bd.fires (s.bayCfg b).commitStep = true :=
      (Bool.not_eq_false _).mp fun hn => hquiet (.inr (.inr hn))
    rw [evalTriggers_fires h hidle hrel hfires]

theorem evalStep_unsaved (b : Bay) (h : s.save = .none) : (s.evalStep b).table = s.table :=
  (evalTriggers_none s b _ h).1

theorem placeFinal_unsaved (b : Bay) (h : s.save = .none) : (s.placeFinal b).table = s.table := by
  unfold State.placeFinal
  rw [changeCommit_none (s.modBay b fun r => { r with slot := some .final }) b (fun bd => bd.setCommit .queued) h]
  rfl

theorem computeInk_table (s : State) (b : Bay) : (s.computeInk b).table = s.table := by
  rw [computeInk_frame]

/-! ### After a commit path has ended in IDLE (R106, R110, R115) -/

theorem afterIdle_unreleased (h : (s.bay b).phase = .active bd) (hrel : bd.commit.release = none) (fin : Bool) :
    s.afterIdle b fin = s.evalStep b := by
  unfold State.afterIdle
  rw [active_of_phase h]
  dsimp only
  rw [hrel]

theorem afterIdle_released {rel : Release} (h : (s.bay b).phase = .active bd) (hrel : bd.commit.release = some rel)
    {fin : Bool} (hends : fin = true ∨ bd.acct.pending = 0) : s.afterIdle b fin = s.completeRelease b rel .ok := by
  unfold State.afterIdle
  rw [active_of_phase h]
  dsimp only
  rw [hrel]
  exact if_pos (by simpa using hends)

theorem afterIdle_writes {rel : Release} (h : (s.bay b).phase = .active bd) (hrel : bd.commit.release = some rel)
    {fin : Bool} (hfin : fin = false) (hp : bd.acct.pending ≠ 0) : s.afterIdle b fin = s.placeFinal b := by
  unfold State.afterIdle
  rw [active_of_phase h]
  dsimp only
  rw [hrel]
  exact if_neg (by simpa [hfin] using hp)

theorem afterIdle_unsaved (b : Bay) (h : s.save = .none) (fin : Bool) : (s.afterIdle b fin).table = s.table := by
  unfold State.afterIdle
  cases ha : (s.bay b).phase.active? with
  | none => rfl
  | some bd =>
    dsimp only
    cases hrel : bd.commit.release with
    | none => exact evalStep_unsaved b h
    | some rel =>
      dsimp only
      split
      · exact (completeRelease_rest s b rel .ok).1
      · exact placeFinal_unsaved b h

/-- With a release that ends here, the bay is RELEASED, its slot empty, and the reply placed. -/
theorem afterIdle_released_bay {rel : Release} (h : (s.bay b).phase = .active bd) (hrel : bd.commit.release = some rel)
    {fin : Bool} (hends : fin = true ∨ bd.acct.pending = 0) :
    (∃ pair, ((s.afterIdle b fin).bay b).phase = .released (bd.toReleased pair)) ∧
      ((s.afterIdle b fin).bay b).slot = none ∧
      (s.run = none → (s.afterIdle b fin).replies = s.replies ++ rel.reply .ok) := by
  obtain ⟨hphase, hslot, -⟩ := completeRelease_bay h rel .ok
  rw [afterIdle_released h hrel hends]
  exact ⟨⟨_, hphase⟩, hslot, fun hrun => completeRelease_replies h rel .ok hrun⟩

/-- With a release and ink left to write, FINAL is placed. -/
theorem afterIdle_writes_bay {rel : Release} (h : (s.bay b).phase = .active bd) (hrel : bd.commit.release = some rel)
    {fin : Bool} (hfin : fin = false) (hp : bd.acct.pending ≠ 0) :
    ((s.afterIdle b fin).bay b).phase = .active (bd.setCommit .queued) ∧
      ((s.afterIdle b fin).bay b).slot = some .final ∧ (s.afterIdle b fin).replies = s.replies := by
  rw [afterIdle_writes h hrel hfin hp, placeFinal_bay h]
  exact ⟨rfl, rfl, (placeFinal_only s b).replies⟩

/-! ### Completion (R106) -/

theorem complete_completes (a : Account) (c : Nat) : Completes a (a.complete c) c := by
  have hmax : maxTu = 16777215 := rfl
  by_cases hroom : c + (a.pending - a.inflight) ≤ 16777215
  · have hsame : a.complete c =
        { a with committed := c, charged := a.charged + a.inflight, pending := a.pending - a.inflight, inflight := 0 } :=
      if_neg (by simp only [hmax]; omega)
    rw [hsame]
    exact ⟨rfl, rfl, rfl, rfl, rfl, fun _ => ⟨rfl, rfl, rfl⟩, fun h => absurd hroom (by omega)⟩
  · have hcut : a.complete c =
        { a with
          committed := c, charged := a.charged + a.inflight, pending := max 0 (maxTu - c), inflight := 0, fine := 0
          ceiling := true } := if_pos (by simp only [hmax]; omega)
    rw [hcut]
    exact ⟨rfl, rfl, rfl, rfl, rfl, fun h => absurd h hroom, fun _ => ⟨Nat.zero_max _, rfl, rfl⟩⟩

/-- The binding that a completed commit leaves, before its ink state is computed. -/
def Binding.completed (bd : Binding) (c : Nat) : Binding := { bd.setCommit .idle with acct := bd.acct.complete c }

/-- The state once a commit is completed and the ink state computed (R106). -/
def State.commitSettled (s : State) (b : Bay) (c : Nat) : State :=
  (s.changeCommit b fun bd => bd.completed c).computeInk b

theorem commitComplete_eq (s : State) (b : Bay) (c : Nat) (fin : Bool) :
    s.commitComplete b c fin = (s.commitSettled b c).afterIdle b fin := rfl

theorem commitSettled_only (s : State) (b : Bay) (c : Nat) : ActsOnly b s (s.commitSettled b c) :=
  (changeCommit_only s b _).trans (computeInk_only _ b)

theorem commitSettled_phase (h : (s.bay b).phase = .active bd) (c : Nat) :
    ((s.commitSettled b c).bay b).phase = .active ((bd.completed c).setInk
      (inkOf (s.bay b).thresholds bd.capacity (bd.completed c).remaining)) := by
  have hchanged := changeCommit_active h fun bd => bd.completed c
  unfold State.commitSettled
  generalize (s.changeCommit b fun bd => bd.completed c) = u at hchanged ⊢
  rw [computeInk_bay (bd := bd.completed c) (by rw [hchanged]), hchanged]
  rfl

theorem commitSettled_unsaved (b : Bay) (c : Nat) (h : s.save = .none) : (s.commitSettled b c).table = s.table := by
  unfold State.commitSettled
  rw [computeInk_table, changeCommit_none s b (fun bd => bd.completed c) h]
  rfl

theorem commitComplete_unsaved (b : Bay) (c : Nat) (fin : Bool) (h : s.save = .none) :
    (s.commitComplete b c fin).table = s.table := by
  rw [commitComplete_eq, afterIdle_unsaved b ((commitSettled_only s b c).save.trans h), commitSettled_unsaved b c h]

/-- A completion with no release in progress (R106). -/
theorem commitComplete_unreleased (h : (s.bay b).phase = .active bd) (hrel : bd.commit.release = none) (c : Nat)
    (fin : Bool) :
    ∃ bd', ((s.commitComplete b c fin).bay b).phase = .active bd' ∧ Completes bd.acct bd'.acct c ∧ bd'.draw = bd.draw ∧
      bd'.ink = inkOf (s.bay b).thresholds bd.capacity bd'.remaining ∧
      (bd'.commit.state = .idle ∨
        bd'.commit.state = .queued ∧ ((s.commitComplete b c fin).bay b).slot = some .commit) := by
  have hphase := commitSettled_phase h c
  rw [commitComplete_eq, afterIdle_unreleased hphase hrel]
  obtain ⟨record, hstep, -, hstate⟩ := evalStep_settled hphase rfl hrel
  exact ⟨_, hstep, complete_completes bd.acct c, rfl, rfl, hstate.imp (·.1) id⟩

/-- A completion that ends a release: the FINAL took, or nothing is left to write (R115). -/
theorem commitComplete_released {rel : Release} (h : (s.bay b).phase = .active bd)
    (hrel : bd.commit.release = some rel) {c : Nat} (hc : c < 2 ^ 24) {fin : Bool}
    (hends : fin = true ∨ bd.acct.pending ≤ bd.acct.inflight) :
    (∃ bd', ((s.commitComplete b c fin).bay b).phase = .released bd' ∧ bd'.commit.state = .idle ∧
        bd'.commit.release = none ∧ bd'.acct.committed = c ∧ bd'.acct.inflight = 0) ∧
      ((s.commitComplete b c fin).bay b).slot = none ∧
      (s.run = none → (s.commitComplete b c fin).replies = s.replies ++ rel.reply .ok) := by
  have hphase := commitSettled_phase h c
  have honly := commitSettled_only s b c
  obtain ⟨hcommitted, hinflight, -, -, -, hfits, -⟩ := complete_completes bd.acct c
  have hleft : fin = true ∨ (bd.acct.complete c).pending = 0 :=
    hends.imp_right fun hle => by rw [(hfits (by omega)).1]; omega
  rw [commitComplete_eq]
  obtain ⟨⟨pair, hreleased⟩, hslot, hreplies⟩ := afterIdle_released_bay hphase hrel hleft
  refine ⟨⟨_, hreleased, rfl, rfl, hcommitted, hinflight⟩, hslot, fun hrun => ?_⟩
  rw [hreplies (honly.run.trans hrun), honly.replies]

/-- A completion that leaves ink to write under a release places FINAL (R115). -/
theorem commitComplete_writes {rel : Release} (h : (s.bay b).phase = .active bd)
    (hrel : bd.commit.release = some rel) {c : Nat} {fin : Bool} (hfin : fin = false)
    (hleft : bd.acct.inflight < bd.acct.pending) (hroom : c + (bd.acct.pending - bd.acct.inflight) ≤ 16777215) :
    (∃ bd', ((s.commitComplete b c fin).bay b).phase = .active bd' ∧ bd'.commit.state = .queued ∧
        bd'.commit.release = some rel ∧ Completes bd.acct bd'.acct c) ∧
      ((s.commitComplete b c fin).bay b).slot = some .final ∧ (s.commitComplete b c fin).replies = s.replies := by
  have hphase := commitSettled_phase h c
  have hcompletes := complete_completes bd.acct c
  obtain ⟨-, -, -, -, -, hfits, -⟩ := id hcompletes
  have hp : (bd.acct.complete c).pending ≠ 0 := by rw [(hfits hroom).1]; omega
  rw [commitComplete_eq]
  obtain ⟨hqueued, hslot, hreplies⟩ := afterIdle_writes_bay hphase hrel hfin hp
  exact ⟨⟨_, hqueued, rfl, hrel, hcompletes⟩, hslot, hreplies.trans (commitSettled_only s b c).replies⟩

/-! ### A flight freed by a RECONCILE (R110) -/

/-- The state once a flight is known not to have taken. -/
def State.flightFreed (s : State) (b : Bay) : State := (s.changeCommit b fun bd => bd.endFlight .idle).computeInk b

theorem flightFreed_only (s : State) (b : Bay) : ActsOnly b s (s.flightFreed b) :=
  (changeCommit_only s b _).trans (computeInk_only _ b)

theorem flightFreed_phase (h : (s.bay b).phase = .active bd) :
    ∃ ink, ((s.flightFreed b).bay b).phase = .active ((bd.endFlight .idle).setInk ink) := by
  have hchanged := changeCommit_active h fun bd => bd.endFlight .idle
  unfold State.flightFreed
  generalize (s.changeCommit b fun bd => bd.endFlight .idle) = u at hchanged ⊢
  rw [computeInk_bay (bd := bd.endFlight .idle) (by rw [hchanged])]
  exact ⟨_, rfl⟩

theorem flightFreed_unreleased (h : (s.bay b).phase = .active bd) (hrel : bd.commit.release = none) :
    ∃ bd', (((s.flightFreed b).afterIdle b false).bay b).phase = .active bd' ∧
      bd'.acct = { bd.acct with inflight := 0 } ∧
      (bd'.commit.state = .idle ∨
        bd'.commit.state = .queued ∧ (((s.flightFreed b).afterIdle b false).bay b).slot = some .commit) := by
  obtain ⟨ink, hphase⟩ := flightFreed_phase h
  rw [afterIdle_unreleased hphase hrel]
  obtain ⟨record, hstep, -, hstate⟩ := evalStep_settled hphase rfl hrel
  exact ⟨_, hstep, rfl, hstate.imp (·.1) id⟩

theorem flightFreed_released {rel : Release} (h : (s.bay b).phase = .active bd) (hrel : bd.commit.release = some rel)
    (hp : bd.acct.pending = 0) :
    (∃ bd', (((s.flightFreed b).afterIdle b false).bay b).phase = .released bd' ∧ bd'.commit.state = .idle ∧
        bd'.commit.release = none ∧ bd'.acct.committed = bd.acct.committed ∧ bd'.acct.inflight = 0) ∧
      (((s.flightFreed b).afterIdle b false).bay b).slot = none ∧
      (s.run = none → ((s.flightFreed b).afterIdle b false).replies = s.replies ++ rel.reply .ok) := by
  obtain ⟨ink, hphase⟩ := flightFreed_phase h
  have honly := flightFreed_only s b
  obtain ⟨⟨pair, hreleased⟩, hslot, hreplies⟩ := afterIdle_released_bay (fin := false) hphase hrel (.inr hp)
  refine ⟨⟨_, hreleased, rfl, rfl, rfl, rfl⟩, hslot, fun hrun => ?_⟩
  rw [hreplies (honly.run.trans hrun), honly.replies]

theorem flightFreed_writes {rel : Release} (h : (s.bay b).phase = .active bd) (hrel : bd.commit.release = some rel)
    (hp : bd.acct.pending ≠ 0) :
    (∃ bd', (((s.flightFreed b).afterIdle b false).bay b).phase = .active bd' ∧ bd'.commit.state = .queued ∧
        bd'.commit.release = some rel ∧ bd'.acct = { bd.acct with inflight := 0 }) ∧
      (((s.flightFreed b).afterIdle b false).bay b).slot = some .final ∧
      ((s.flightFreed b).afterIdle b false).replies = s.replies := by
  obtain ⟨ink, hphase⟩ := flightFreed_phase h
  obtain ⟨hqueued, hslot, hreplies⟩ := afterIdle_writes_bay (fin := false) hphase hrel rfl hp
  exact ⟨⟨_, hqueued, rfl, hrel, rfl⟩, hslot, hreplies.trans (flightFreed_only s b).replies⟩

/-! ### Commits stopped (R107, R108) -/

/-- The state once the tag is known to have refused or undone a write. -/
def State.commitsStopped (s : State) (b : Bay) (k : EvidenceKind) : State :=
  (((s.addEvidence b k).changeCommit b fun bd => bd.endFlight .stopped).latch (baySite b) .commitFault).computeInk b

theorem stopCommits_eq (s : State) (b : Bay) (k : EvidenceKind) :
    s.stopCommits b k = (s.commitsStopped b k).afterHalt b := rfl

theorem commitsStopped_only (s : State) (b : Bay) (k : EvidenceKind) : ActsOnly b s (s.commitsStopped b k) :=
  (((addEvidence_only s b k).trans (changeCommit_only _ b _)).trans (latch_only _ b _ _)).trans (computeInk_only _ b)

theorem commitsStopped_phase (h : (s.bay b).phase = .active bd) (k : EvidenceKind) :
    ∃ ink, ((s.commitsStopped b k).bay b).phase =
      .active (((bd.withEvidence k).endFlight .stopped).setInk ink) := by
  have hended := changeCommit_active (addEvidence_phase (k := k) h) fun bd => bd.endFlight .stopped
  unfold State.commitsStopped
  generalize (s.addEvidence b k).changeCommit b (fun bd => bd.endFlight .stopped) = u at hended ⊢
  rw [computeInk_bay (bd := (bd.withEvidence k).endFlight .stopped) (by rw [latch_bay, hended])]
  exact ⟨_, rfl⟩

theorem commitsStopped_latched (h : (s.bay b).phase = .active bd) (k : EvidenceKind) :
    (s.commitsStopped b k).latchOf (baySite b) Kind.commitFault.code ≠ none ∧
      (bd.evidence = [] → (s.commitsStopped b k).latchOf (baySite b) Kind.refill.code ≠ none) := by
  unfold State.commitsStopped
  refine ⟨(computeInk_only _ b).latched _ _ (latch_set _ _ _), fun he => ?_⟩
  have hjoined := (changeCommit_only (s.addEvidence b k) b fun bd => bd.endFlight .stopped).latched _ _
    (addEvidence_latched (k := k) h he)
  exact (computeInk_only _ b).latched _ _ (latch_stays _ _ _ _ _ hjoined)

theorem stopCommits_latched (h : (s.bay b).phase = .active bd) (k : EvidenceKind) :
    (s.stopCommits b k).latchOf (baySite b) Kind.commitFault.code ≠ none ∧
      (bd.evidence = [] → (s.stopCommits b k).latchOf (baySite b) Kind.refill.code ≠ none) := by
  obtain ⟨hfault, hrefill⟩ := commitsStopped_latched h k
  have hhalt := (afterHalt_on (s.commitsStopped b k) b).latched
  exact ⟨hhalt _ _ hfault, fun he => hhalt _ _ (hrefill he)⟩

theorem stopCommits_unreleased (h : (s.bay b).phase = .active bd) (hrel : bd.commit.release = none) (k : EvidenceKind) :
    ∃ bd', ((s.stopCommits b k).bay b).phase = .active bd' ∧ bd'.commit.state = .stopped ∧
      bd'.acct = { bd.acct with inflight := 0 } ∧ k ∈ bd'.evidence := by
  obtain ⟨ink, hphase⟩ := commitsStopped_phase h k
  rw [stopCommits_eq, afterHalt_without hphase hrel]
  exact ⟨_, hphase, rfl, rfl, mem_withEvidence.mpr (.inr rfl)⟩

theorem stopCommits_released {rel : Release} (h : (s.bay b).phase = .active bd) (hrel : bd.commit.release = some rel)
    (k : EvidenceKind) :
    (∃ bd', ((s.stopCommits b k).bay b).phase = .released bd' ∧ bd'.commit.state = .stopped ∧ k ∈ bd'.evidence) ∧
      (s.run = none → (s.stopCommits b k).replies = s.replies ++ rel.reply .commitUncertain) := by
  obtain ⟨ink, hphase⟩ := commitsStopped_phase h k
  have honly := commitsStopped_only s b k
  rw [stopCommits_eq, afterHalt_release hphase hrel]
  refine ⟨⟨_, (completeRelease_bay hphase rel .commitUncertain).1, rfl, mem_withEvidence.mpr (.inr rfl)⟩, fun hrun => ?_⟩
  rw [completeRelease_replies hphase rel .commitUncertain (honly.run.trans hrun), honly.replies]

/-! ### Authentic counters (R56, R57) -/

theorem raiseHigh_bay (s : State) (b : Bay) (c : Nat) : (s.raiseHigh b c).bay b = s.bay b := setTable_bay _ _ _

theorem raiseHigh_table (s : State) (b : Bay) (c : Nat) :
    (s.raiseHigh b c).table = s.table.map fun e => if e.bay = some b then { e with high := max e.high c } else e :=
  setTable_table s _

end

end Sys2Proof.Machine

/-! ADVANCE replies (R57, R106 to R109): the judgement over the operation nonce, and the three outcomes of its counter. -/

namespace Sys2Proof.Machine

section

variable {s : State} {l : Lane} {x : Running} {bd : Binding}

/-- A bound bay's operation is judged with the binding's key and serial (R43). -/
theorem identityFor_bound (hop : x.op ≠ .identify) (h : (s.bay (bayAt l x.position)).phase = .active bd) :
    s.identityFor l x = some (bd.keyIndex, bd.serial) := by
  unfold State.identityFor
  cases hx : x.op with
  | identify => exact absurd hx hop
  | commit => simp only [h, Phase.binding?, Option.map_some]
  | reconcile => simp only [h, Phase.binding?, Option.map_some]
  | final => simp only [h, Phase.binding?, Option.map_some]

/-- An authentic ADVANCE counter, by the target and the committed figure (R57, R106, R107, R108). -/
theorem advanceCounter_eq {b : Bay} {T : Nat} {fin : Bool} (h : (s.bay b).phase = .active bd)
    (hstate : bd.commit.state = .inFlight T fin) (c : Nat) :
    s.advanceCounter b c =
      if T ≤ c then (s.raiseHigh b c).commitComplete b c fin
      else (s.raiseHigh b c).stopCommits b (if bd.acct.committed ≤ c then .advanceRefused else .rollback) := by
  unfold State.advanceCounter
  rw [active_of_phase h]
  dsimp only
  rw [hstate]
  dsimp only
  split
  · rfl
  · split <;> rfl

theorem judgeReply_advance_authentic (hstep : x.step = .advance) (hop : x.op ≠ .identify)
    {n response master : Key} (hn : x.opNonce = some n) {c : Nat} (hc : c < 2 ^ 24)
    (hp : (s.bay (bayAt l x.position)).phase = .active bd) (hm : s.masterKeys[bd.keyIndex] = some master)
    (hr : response = tagResponse master bd.serial n c) :
    s.judgeReply l x (counterReply x.position c response) =
      ((s.laneEnded l).advanceCounter (bayAt l x.position) c).freeLane l := by
  have hauth := (replyAuthentic_counterReply (response := response) hc (identityFor_bound hop hp)).mpr ⟨master, hm, hr⟩
  rw [judgeReply_advance hstep, hn, if_pos hauth, endOperation_eq, counterReply_counter hc]

theorem judgeReply_advance_unauthentic (hstep : x.step = .advance) (hop : x.op ≠ .identify)
    {n response : Key} (hn : x.opNonce = some n) {c : Nat} (hc : c < 2 ^ 24)
    (hp : (s.bay (bayAt l x.position)).phase = .active bd)
    (hr : ∀ master, s.masterKeys[bd.keyIndex] = some master → response ≠ tagResponse master bd.serial n c) :
    s.judgeReply l x (counterReply x.position c response) =
      ((s.laneEnded l).lostAdvance (bayAt l x.position)).freeLane l := by
  have hauth : ¬s.replyAuthentic l x (some n) (counterReply x.position c response) = true := by
    rw [replyAuthentic_counterReply hc (identityFor_bound hop hp)]
    exact fun ⟨master, hm, heq⟩ => hr master hm heq
  rw [judgeReply_advance hstep, hn, if_neg hauth, endOperation_eq]

/-- A counter reply at its taking is judged by the transaction on the lane, whose timer stops. -/
theorem exec_counterReply (h : Awaiting s l x) (hstep : x.step ≠ .readRecord) (c : Nat) (response : Key) :
    exec (.tagReply l (counterReply x.position c response)) s =
      .next (s.judgeReply l { x with timer := none } (counterReply x.position c response)).settleConverter :=
  tagReply_awaited h (counterReply_frameOk hstep c response)

end

/-- Settles O47: the owner acts on the counter as `advanceCounter_eq` says. -/
theorem advanceReplyJudged : Obligations.AdvanceReplyJudged := by
  intro s l x bd n response c T fin h hstep hop hn hc b reply hp hstate
  have hop' : x.op ≠ .identify := by rcases hop with hop | hop <;> rw [hop] <;> nofun
  have hexec := exec_counterReply h (by rw [hstep]; nofun) c response
  refine ⟨fun hr => ?_, fun master hm hr => ?_⟩
  · obtain ⟨hbay, hlatches⟩ := lostAdvance_bay (s := s.laneEnded l) hp hstate
    have hlost := judgeReply_advance_unauthentic (x := { x with timer := none }) hstep hop' hn hc hp hr
    exact ⟨_, by rw [hexec, hlost],
      (lostAdvance_only (s.laneEnded l) b).actsOn.others, by rw [hbay], by rw [hbay]; rfl, hlatches⟩
  have hothers := (advanceCounter_on (s.laneEnded l) b c).others
  have hjudged := judgeReply_advance_authentic (x := { x with timer := none }) hstep hop' hn hc hp hm hr
  rw [hjudged] at hexec
  refine ⟨fun hT => ?_, fun hT => ?_⟩
  · refine ⟨_, hexec, hothers, ?_⟩
    show let t := (s.laneEnded l).advanceCounter b c; _
    rw [advanceCounter_eq (s := s.laneEnded l) hp hstate, if_pos hT]
    have hraised := raiseHigh_only (s.laneEnded l) b c
    have hbay : ((s.laneEnded l).raiseHigh b c).bay b = s.bay b := raiseHigh_bay _ _ _
    have htable := raiseHigh_table (s.laneEnded l) b c
    generalize (s.laneEnded l).raiseHigh b c = u at hraised hbay htable ⊢
    have hphase : (u.bay b).phase = .active bd := by rw [hbay]; exact hp
    refine ⟨fun hs => (commitComplete_unsaved b c fin (hraised.save.trans hs)).trans htable, fun hrel => ?_,
      fun rel hrel => ⟨fun hends => ?_, fun hfin hleft hroom => ?_⟩⟩
    · rw [← hbay]
      exact commitComplete_unreleased hphase hrel c fin
    · obtain ⟨⟨bd', hreleased, hidle, -, hcommitted, -⟩, hslot, hreplies⟩ :=
        commitComplete_released hphase hrel hc hends
      refine ⟨⟨bd', hreleased, hidle, hcommitted⟩, hslot, fun hres hrun => ?_⟩
      rw [hreplies (hraised.run.trans hrun), hraised.replies, release_reply_reserved hres]
      rfl
    · obtain ⟨⟨bd', hactive, hqueued, hrel', -⟩, hslot, -⟩ := commitComplete_writes hphase hrel hfin hleft hroom
      exact ⟨hslot, bd', hactive, hqueued, hrel'⟩
  · intro kind
    refine ⟨_, hexec, hothers, ?_⟩
    show let t := (s.laneEnded l).advanceCounter b c; _
    rw [advanceCounter_eq (s := s.laneEnded l) hp hstate, if_neg (Nat.not_le.mpr hT)]
    have hraised := raiseHigh_only (s.laneEnded l) b c
    have hbay : ((s.laneEnded l).raiseHigh b c).bay b = s.bay b := raiseHigh_bay _ _ _
    generalize (s.laneEnded l).raiseHigh b c = u at hraised hbay ⊢
    have hphase : (u.bay b).phase = .active bd := by rw [hbay]; exact hp
    obtain ⟨hfault, hrefill⟩ := stopCommits_latched hphase kind
    refine ⟨hfault, hrefill, fun hrel => stopCommits_unreleased hphase hrel kind, fun rel hrel => ?_⟩
    obtain ⟨hreleased, hreplies⟩ := stopCommits_released hphase hrel kind
    refine ⟨hreleased, fun hres hrun => ?_⟩
    rw [hreplies (hraised.run.trans hrun), hraised.replies, release_reply_reserved hres]
    rfl

end Sys2Proof.Machine

/-! CHALLENGE replies of a bound bay (R29, R36, R37, R56): the ADVANCE that follows one, and the judgement of a RECONCILE. -/

namespace Sys2Proof.Machine

section

variable {s : State} {l : Lane} {x : Running} {b : Bay} {bd : Binding}

/-! ### The counter against the entry (R56) -/

theorem checkCounter_raises {e : Entry} {c : Nat} (he : s.entryOf b = some e) (hc : e.high ≤ c) :
    s.checkCounter b c = s.raiseHigh b c := by
  unfold State.checkCounter
  rw [he]
  exact if_neg (Nat.not_lt.mpr hc)

theorem checkCounter_fallsBack {e : Entry} {c : Nat} (he : s.entryOf b = some e) (hc : c < e.high) :
    s.checkCounter b c = s.addEvidence b .rollback := by
  unfold State.checkCounter
  rw [he]
  exact if_pos hc

/-- The check of a counter changes its binding's evidence and the line at most. -/
theorem checkCounter_bay (h : (s.bay b).phase = .active bd) (c : Nat) :
    ∃ evidence line, (s.checkCounter b c).bay b =
      { s.bay b with phase := .active { bd with evidence := evidence }, line := line } := by
  have hsame : s.bay b = { s.bay b with phase := .active { bd with evidence := bd.evidence } } := by rw [← h]
  cases he : s.entryOf b with
  | none =>
    have hkept : s.checkCounter b c = s := by
      unfold State.checkCounter
      rw [he]
    exact ⟨bd.evidence, (s.bay b).line, by rw [hkept]; exact hsame⟩
  | some e =>
    by_cases hc : c < e.high
    · exact ⟨_, _, by rw [checkCounter_fallsBack he hc]; exact addEvidence_bay h⟩
    · exact ⟨bd.evidence, (s.bay b).line, by
        rw [checkCounter_raises he (Nat.le_of_not_lt hc), raiseHigh_bay]; exact hsame⟩

theorem checkCounter_phase (h : (s.bay b).phase = .active bd) (c : Nat) :
    ∃ evidence, ((s.checkCounter b c).bay b).phase = .active { bd with evidence := evidence } := by
  obtain ⟨evidence, line, hbay⟩ := checkCounter_bay h c
  exact ⟨evidence, by rw [hbay]⟩

/-! ### The ADVANCE that follows (R29, R30) -/

theorem advanceOf_eq {master : Key} {T : Nat} (h : (s.bay b).phase = .active bd)
    (hT : bd.commit.state.target? = some T) (hm : s.masterKeys[bd.keyIndex] = some master) (n : Key) :
    s.advanceOf b n = (T, proofOf (tagKey master bd.serial) n T) := by
  have hkey : s.masterKey bd.keyIndex = some master := hm
  unfold State.advanceOf
  rw [h]
  dsimp only [Phase.binding?]
  rw [hT, hkey]
  rfl

/-- The lane with an ADVANCE on it. -/
theorem sendAdvance_lane (s : State) (l : Lane) (x : Running) (n : Key) :
    ((s.sendAdvance l x n).lane l).running =
      some { x with
        step := .advance, attempt := 1, timer := none, nonce := none, opNonce := some n
        command := advanceCommand x.position (s.advanceOf (bayAt l x.position) n).1
          (s.advanceOf (bayAt l x.position) n).2 } := by
  unfold State.sendAdvance State.onLane
  dsimp only
  rw [lane_modLane_same]

theorem sendAdvance_lane_other (s : State) {l m : Lane} (h : m ≠ l) (x : Running) (n : Key) :
    (s.sendAdvance l x n).lane m = s.lane m := lane_modLane_other s h _

/-! ### The judgement of a CHALLENGE reply (R29, R36, R37) -/

theorem judgeReply_challenge_authentic (hstep : x.step = .challenge) (hop : x.op ≠ .identify)
    {n response master : Key} (hn : x.nonce = some n) {c : Nat} (hc : c < 2 ^ 24)
    (hp : (s.bay (bayAt l x.position)).phase = .active bd) (hm : s.masterKeys[bd.keyIndex] = some master)
    (hr : response = tagResponse master bd.serial n c) :
    s.judgeReply l x (counterReply x.position c response) = s.challengeCounter l x c := by
  have hauth := (replyAuthentic_counterReply (response := response) hc (identityFor_bound hop hp)).mpr ⟨master, hm, hr⟩
  rw [judgeReply_challenge hstep, hn, if_pos hauth, counterReply_counter hc]

theorem challengeMismatch_bound (hop : x.op ≠ .identify) :
    s.challengeMismatch l x = ((s.laneEnded l).badResponse (bayAt l x.position)).freeLane l := by
  show _ = s.endOperation l fun t => t.badResponse (bayAt l x.position)
  unfold State.challengeMismatch
  cases hx : x.op with
  | identify => exact absurd hx hop
  | commit => rfl
  | reconcile => rfl
  | final => rfl

theorem judgeReply_challenge_unauthentic (hstep : x.step = .challenge) (hop : x.op ≠ .identify)
    {n response : Key} (hn : x.nonce = some n) {c : Nat} (hc : c < 2 ^ 24)
    (hp : (s.bay (bayAt l x.position)).phase = .active bd)
    (hr : ∀ master, s.masterKeys[bd.keyIndex] = some master → response ≠ tagResponse master bd.serial n c) :
    s.judgeReply l x (counterReply x.position c response) =
      ((s.laneEnded l).badResponse (bayAt l x.position)).freeLane l := by
  have hauth : ¬s.replyAuthentic l x (some n) (counterReply x.position c response) = true := by
    rw [replyAuthentic_counterReply hc (identityFor_bound hop hp)]
    exact fun ⟨master, hm, heq⟩ => hr master hm heq
  rw [judgeReply_challenge hstep, hn, if_neg hauth, challengeMismatch_bound hop]

theorem challengeCounter_writes (hop : x.op = .commit ∨ x.op = .final) {n : Key} (hn : x.nonce = some n) (c : Nat) :
    s.challengeCounter l x c = (s.checkCounter (bayAt l x.position) c).sendAdvance l x n := by
  unfold State.challengeCounter
  rcases hop with hop | hop <;> simp only [hop, hn, Option.getD_some]

theorem challengeCounter_reconcile (hop : x.op = .reconcile) (c : Nat) :
    s.challengeCounter l x c = ((s.laneEnded l).reconcileCounter (bayAt l x.position) c).freeLane l := by
  show _ = s.endOperation l fun t => t.reconcileCounter (bayAt l x.position) c
  unfold State.challengeCounter
  simp only [hop]

/-- An authentic RECONCILE counter, by the target (R56, R110). -/
theorem reconcileCounter_eq {T : Nat} {fin : Bool} (h : (s.bay b).phase = .active bd)
    (hstate : bd.commit.state = .reconciling T fin) (c : Nat) :
    s.reconcileCounter b c =
      if T ≤ c then (s.checkCounter b c).commitComplete b c fin
      else ((s.checkCounter b c).flightFreed b).afterIdle b false := by
  unfold State.reconcileCounter
  rw [active_of_phase h]
  dsimp only
  rw [hstate]
  rfl

/-- The BAD_RESPONSE rejection of a bound bay (R13, R58, R59). -/
theorem badResponse_rejects (h : (s.bay b).phase = .active bd) :
    ((s.badResponse b).bay b).phase = .rejected .badResponse DrawFigures.zero ∧
      (s.badResponse b).table = tableUnbound s.table b bd ∧
      (s.badResponse b).latchOf (baySite b) Kind.rejected.code ≠ none := by
  have hbound : (s.bay b).phase.binding? = some bd := by rw [h]; rfl
  obtain ⟨hphase, -⟩ := unbind_bay hbound (.rejected .badResponse DrawFigures.zero) false
  obtain ⟨htable, -⟩ := unbind_rest hbound (.rejected .badResponse DrawFigures.zero) false
  unfold State.badResponse
  rw [latch_bay, latch_table]
  exact ⟨hphase, htable, latch_set _ _ _⟩

/-- A RECONCILE with no release in progress. -/
theorem reconcileCounter_unreleased {T c : Nat} {fin : Bool} (h : (s.bay b).phase = .active bd)
    (hstate : bd.commit.state = .reconciling T fin) (hrel : bd.commit.release = none) :
    ∃ bd', ((s.reconcileCounter b c).bay b).phase = .active bd' ∧
      (bd'.commit.state = .idle ∨
        bd'.commit.state = .queued ∧ ((s.reconcileCounter b c).bay b).slot = some .commit) ∧
      (T ≤ c → Completes bd.acct bd'.acct c) ∧ (c < T → bd'.acct = { bd.acct with inflight := 0 }) := by
  obtain ⟨evidence, hchecked⟩ := checkCounter_phase h c
  rw [reconcileCounter_eq h hstate]
  by_cases hT : T ≤ c
  · obtain ⟨bd', hphase, hcompletes, -, -, hstate'⟩ := commitComplete_unreleased hchecked hrel c fin
    rw [if_pos hT]
    exact ⟨bd', hphase, hstate', fun _ => hcompletes, fun hlt => absurd hT (Nat.not_le.mpr hlt)⟩
  · obtain ⟨bd', hphase, hacct, hstate'⟩ := flightFreed_unreleased hchecked hrel
    rw [if_neg hT]
    exact ⟨bd', hphase, hstate', fun hle => absurd hle hT, fun _ => hacct⟩

/-- A RECONCILE that ends a release. -/
theorem reconcileCounter_released {T c : Nat} {fin : Bool} {rel : Release} (h : (s.bay b).phase = .active bd)
    (hstate : bd.commit.state = .reconciling T fin) (hrel : bd.commit.release = some rel) (hc : c < 2 ^ 24)
    (hends : T ≤ c ∧ (fin = true ∨ bd.acct.pending - bd.acct.inflight = 0) ∨ c < T ∧ bd.acct.pending = 0) :
    (∃ bd', ((s.reconcileCounter b c).bay b).phase = .released bd' ∧ bd'.commit.state = .idle ∧
        bd'.commit.release = none ∧ bd'.acct.committed = (if T ≤ c then c else bd.acct.committed) ∧
        bd'.acct.inflight = 0) ∧
      ((s.reconcileCounter b c).bay b).slot = none ∧
      (s.run = none → (s.reconcileCounter b c).replies = s.replies ++ rel.reply .ok) := by
  obtain ⟨evidence, hchecked⟩ := checkCounter_phase h c
  have honly := checkCounter_only s b c
  rw [reconcileCounter_eq h hstate]
  rcases hends with ⟨hT, hleft⟩ | ⟨hT, hp⟩
  · obtain ⟨hreleased, hslot, hreplies⟩ := commitComplete_released hchecked hrel hc
      (hleft.imp_right Nat.le_of_sub_eq_zero)
    rw [if_pos hT, if_pos hT]
    exact ⟨hreleased, hslot, fun hrun => by rw [hreplies (honly.run.trans hrun), honly.replies]⟩
  · obtain ⟨hreleased, hslot, hreplies⟩ := flightFreed_released hchecked hrel hp
    rw [if_neg (Nat.not_le.mpr hT), if_neg (Nat.not_le.mpr hT)]
    exact ⟨hreleased, hslot, fun hrun => by rw [hreplies (honly.run.trans hrun), honly.replies]⟩

/-- A RECONCILE that leaves ink to write under a release. -/
theorem reconcileCounter_writes {T c : Nat} {fin : Bool} {rel : Release} (h : (s.bay b).phase = .active bd)
    (hstate : bd.commit.state = .reconciling T fin) (hrel : bd.commit.release = some rel)
    (hends : T ≤ c ∧ fin = false ∧ 0 < bd.acct.pending - bd.acct.inflight ∧
        c + (bd.acct.pending - bd.acct.inflight) ≤ 16777215 ∨ c < T ∧ 0 < bd.acct.pending) :
    ((s.reconcileCounter b c).bay b).slot = some .final ∧ (s.reconcileCounter b c).replies = s.replies ∧
      ∃ bd', ((s.reconcileCounter b c).bay b).phase = .active bd' ∧ bd'.commit.state = .queued ∧
        bd'.commit.release = some rel ∧ (T ≤ c → Completes bd.acct bd'.acct c) ∧
        (c < T → bd'.acct = { bd.acct with inflight := 0 }) := by
  obtain ⟨evidence, hchecked⟩ := checkCounter_phase h c
  have honly := checkCounter_only s b c
  rw [reconcileCounter_eq h hstate]
  rcases hends with ⟨hT, hfin, hleft, hroom⟩ | ⟨hT, hp⟩
  · obtain ⟨⟨bd', hphase, hqueued, hrel', hcompletes⟩, hslot, hreplies⟩ :=
      commitComplete_writes hchecked hrel hfin (Nat.lt_of_sub_pos hleft) hroom
    rw [if_pos hT]
    exact ⟨hslot, hreplies.trans honly.replies, bd', hphase, hqueued, hrel', fun _ => hcompletes,
      fun hlt => absurd hT (Nat.not_le.mpr hlt)⟩
  · obtain ⟨⟨bd', hphase, hqueued, hrel', hacct⟩, hslot, hreplies⟩ :=
      flightFreed_writes hchecked hrel (Nat.pos_iff_ne_zero.mp hp)
    rw [if_neg (Nat.not_le.mpr hT)]
    exact ⟨hslot, hreplies.trans honly.replies, bd', hphase, hqueued, hrel',
      fun hle => absurd hT (Nat.not_lt.mpr hle), fun _ => hacct⟩

/-- The entry of a bound bay once a counter is checked, and the evidence that a counter below its figure gives. -/
theorem checkCounter_judged {c : Nat} {e : Entry} (h : (s.bay b).phase = .active bd)
    (he : s.table.find? (fun e => e.bay = some b) = some e) :
    (e.high ≤ c → (s.checkCounter b c).bay b = s.bay b ∧
        (s.checkCounter b c).table =
          s.table.map fun e => if e.bay = some b then { e with high := max e.high c } else e) ∧
      (c < e.high → ∃ bd', ((s.checkCounter b c).bay b).phase = .active bd' ∧ EvidenceKind.rollback ∈ bd'.evidence ∧
        bd'.acct = bd.acct ∧ bd'.commit = bd.commit) := by
  have hentry : s.entryOf b = some e := (entryOf_eq s b).trans he
  refine ⟨fun hle => ?_, fun hlt => ?_⟩
  · rw [checkCounter_raises hentry hle]
    exact ⟨raiseHigh_bay s b c, raiseHigh_table s b c⟩
  · rw [checkCounter_fallsBack hentry hlt]
    exact ⟨_, addEvidence_phase h, mem_withEvidence.mpr (.inr rfl), rfl, rfl⟩

/-- The ADVANCE that a checked counter sends: the target, and the proof over the same nonce (R30, R43). -/
theorem checkedAdvance {c T : Nat} {n master : Key} (h : (s.bay (bayAt l x.position)).phase = .active bd)
    (hT : bd.commit.state.target? = some T) (hm : s.masterKeys[bd.keyIndex] = some master) :
    (((s.checkCounter (bayAt l x.position) c).sendAdvance l x n).lane l).running =
      some { x with
        step := .advance, attempt := 1, timer := none, nonce := none, opNonce := some n
        command :=
          withCheck (toBytes 1 x.position.val ++ [0x03] ++ toBytes 3 T ++
            toBytes 16 (Config.digest
              (Config.digest master (toBytes 8 bd.serial.toNat ++ List.replicate 8 0))
              (toBytes 16 n.toNat ++ toBytes 3 T)).toNat) } := by
  have hcore := (checkCounter_only s (bayAt l x.position) c).core
  have hkeys : (s.checkCounter (bayAt l x.position) c).masterKeys = s.masterKeys := hcore.masterKeys
  obtain ⟨evidence, hphase⟩ := checkCounter_phase h c
  rw [sendAdvance_lane, advanceOf_eq (bd := { bd with evidence := evidence }) hphase hT (by rw [hkeys]; exact hm)]
  rfl

end

/-- Settles O46. -/
theorem commitChallengeJudged : Obligations.CommitChallengeJudged := by
  intro s l x bd n response c h hstep hop hn hc b reply hp
  have hexec := exec_counterReply h (by rw [hstep]; nofun) c response
  refine ⟨fun hr => ?_, fun master hm hr => ?_⟩
  · have hjudged := judgeReply_challenge_unauthentic (x := { x with timer := none }) hstep hop hn hc hp hr
    obtain ⟨hphase, htable, hlatched⟩ := badResponse_rejects (s := s.laneEnded l) hp
    exact ⟨_, by rw [hexec, hjudged], hphase, htable, hlatched, (badResponse_on (s.laneEnded l) b).others⟩
  have hjudged := judgeReply_challenge_authentic (x := { x with timer := none }) hstep hop hn hc hp hm hr
  rw [hjudged] at hexec
  refine ⟨fun T hwrite hT => ?_, fun T fin hrec hstate hrel => ?_, fun T fin rel hrec hstate hrel => ?_⟩
  · have honly := checkCounter_only s b c
    rw [challengeCounter_writes (x := { x with timer := none }) hwrite hn] at hexec
    exact ⟨_, hexec, honly.actsOn.others,
      fun m hm => (sendAdvance_lane_other _ hm { x with timer := none } n).trans (honly.lane m),
      checkedAdvance (x := { x with timer := none }) hp hT hm, fun e he => checkCounter_judged hp he⟩
  · rw [challengeCounter_reconcile (x := { x with timer := none }) hrec] at hexec
    exact ⟨_, hexec, (reconcileCounter_on (s.laneEnded l) b c).others,
      reconcileCounter_unreleased (s := s.laneEnded l) hp hstate hrel⟩
  · rw [challengeCounter_reconcile (x := { x with timer := none }) hrec] at hexec
    refine ⟨_, hexec, (reconcileCounter_on (s.laneEnded l) b c).others, fun hends => ?_,
      fun hends => reconcileCounter_writes (s := s.laneEnded l) hp hstate hrel hends⟩
    obtain ⟨hreleased, hslot, hreplies⟩ := reconcileCounter_released (s := s.laneEnded l) hp hstate hrel hc hends
    refine ⟨hreleased, hslot, fun hres hrun => ?_⟩
    rw [← release_reply_reserved hres]
    exact hreplies hrun

end Sys2Proof.Machine

/-! Binding (R51 to R55, R63 to R65, R69): the entry at the front, the meter as it opens, and the table while a save runs. -/

namespace Sys2Proof.Machine

/-! ### The table at a binding (R63, R64) -/

theorem evictLast_unnamed {evicted : Entry} {behind : List Entry} (h : evicted.bay = none)
    (hb : ∀ e ∈ behind, e.bay ≠ none) : evictLast (evicted :: behind) = behind := by
  have hnone : (behind.any fun x => x.bay.isNone) = false :=
    List.any_eq_false.mpr fun x hx hn => hb x hx (Option.isNone_iff_eq_none.mp hn)
  simp [evictLast, hnone, h]

/-- The last entry that names no bay leaves the table (R64). -/
theorem evictLast_split {before behind : List Entry} {evicted : Entry} (h : evicted.bay = none)
    (hb : ∀ e ∈ behind, e.bay ≠ none) : evictLast (before ++ evicted :: behind) = before ++ behind := by
  induction before with
  | nil => exact evictLast_unnamed h hb
  | cons e before ih =>
    have hlater : ((before ++ evicted :: behind).any fun x => x.bay.isNone) = true :=
      List.any_eq_true.mpr ⟨evicted, by simp, by rw [h]; rfl⟩
    show (if ((before ++ evicted :: behind).any fun x => x.bay.isNone) = true then
      e :: evictLast (before ++ evicted :: behind) else _) = _
    rw [if_pos hlater, ih]
    rfl

theorem evictLast_subset (t : List Entry) : ∀ e ∈ evictLast t, e ∈ t := by
  induction t with
  | nil => exact fun e he => he
  | cons x xs ih =>
    intro e he
    unfold evictLast at he
    split at he
    · rcases List.mem_cons.mp he with rfl | he
      · exact List.mem_cons_self
      · exact List.mem_cons_of_mem x (ih e he)
    · split at he
      · exact List.mem_cons_of_mem x he
      · exact he

theorem find_serial_eq (t : List Entry) (serial : Serial) :
    (t.find? fun e => e.serial == serial) = t.find? fun e => e.serial = serial :=
  congrArg (fun f => t.find? f) (funext fun e => beq_eq_decide e.serial serial)

section

variable {t : List Entry} {rec' : TagRecord} {c : Nat}

theorem frontEntry_found {e : Entry} (h : (t.find? fun e => e.serial = rec'.serial) = some e) :
    frontEntry t rec' c = (e, t.eraseP fun e => e.serial = rec'.serial) := by
  unfold frontEntry
  rw [find_serial_eq, h]
  exact congrArg (fun f => (e, t.eraseP f)) (funext fun e => beq_eq_decide e.serial rec'.serial)

theorem frontEntry_new (h : (t.find? fun e => e.serial = rec'.serial) = none) :
    frontEntry t rec' c = (Entry.fresh rec' c, if t.length < 32 then t else evictLast t) := by
  unfold frontEntry
  rw [find_serial_eq, h]

/-- The entries behind the front one all stood in the table. -/
theorem frontEntry_rest_subset : ∀ e ∈ (frontEntry t rec' c).2, e ∈ t := by
  intro e he
  cases h : t.find? fun e => e.serial = rec'.serial with
  | some x =>
    rw [frontEntry_found h] at he
    exact List.mem_of_mem_eraseP he
  | none =>
    rw [frontEntry_new h] at he
    dsimp only at he
    split at he
    · exact he
    · exact evictLast_subset t e he

/-- What a binding reads from the entry, whether it was found or is new (R52, R54, R65). -/
theorem frontEntry_fields :
    let old := t.find? fun e => e.serial = rec'.serial
    let e := (frontEntry t rec' c).1
    let high := (old.map (·.high)).getD c
    let taken := ((old.bind (·.unsure)).map fun u => if u.target ≤ c then u.amount else 0).getD 0
    e.high = high ∧ settle e c = min ((old.map (·.owed)).getD 0 - taken) (16777215 - c) ∧
      firstEvidence e c =
        (if c < high then [.rollback] else if (old.bind (·.refilled)).isSome then [.knownRefilled] else []) ∧
      e.lastSensed = old.bind (·.lastSensed) ∧ e.refilled = old.bind (·.refilled) ∧
      e.cloneSeen = (old.map (·.cloneSeen)).getD false ∧ e.serial = rec'.serial := by
  cases h : t.find? fun e => e.serial = rec'.serial with
  | some e =>
    have hserial : e.serial = rec'.serial := by simpa using List.find?_some h
    rw [frontEntry_found h]
    refine ⟨rfl, ?_, rfl, rfl, rfl, rfl, hserial⟩
    unfold settle
    cases hu : e.unsure with
    | none => simp [hu, maxTu]
    | some u => simp [hu, maxTu]
  | none =>
    rw [frontEntry_new h]
    exact ⟨rfl, by simp [settle, Entry.fresh, maxTu], rfl, rfl, rfl, rfl, rfl⟩

/-- The entries behind the front one (R63, R64). -/
theorem frontEntry_rest :
    let old := t.find? fun e => e.serial = rec'.serial
    let rest := (frontEntry t rec' c).2
    (old ≠ none → rest = t.eraseP fun e => e.serial = rec'.serial) ∧ (old = none → t.length < 32 → rest = t) ∧
      (old = none → 32 ≤ t.length → ∀ before evicted behind, t = before ++ evicted :: behind → evicted.bay = none →
        (∀ e ∈ behind, e.bay ≠ none) → rest = before ++ behind) := by
  cases h : t.find? fun e => e.serial = rec'.serial with
  | some e =>
    rw [frontEntry_found h]
    exact ⟨fun _ => rfl, fun hn => absurd hn (Option.some_ne_none e), fun hn => absurd hn (Option.some_ne_none e)⟩
  | none =>
    rw [frontEntry_new h]
    refine ⟨fun hn => absurd rfl hn, fun _ hlen => if_pos hlen, fun _ hlen before evicted behind ht hnone hnamed => ?_⟩
    show (if t.length < 32 then t else evictLast t) = _
    rw [if_neg (Nat.not_lt.mpr hlen), ht, evictLast_split hnone hnamed]

end

/-- The entry as a binding leaves it (R65). -/
theorem bindTo_eq (e : Entry) (b : Bay) (rec' : TagRecord) (c : Nat) :
    e.bindTo b rec' c =
      { e with
        bay := some b, product := rec'.product, capacity := rec'.capacity, owed := 0, unsure := none
        high := max e.high c
        refilled := if c < e.high then e.refilled.or (some .rollback) else e.refilled } := by
  unfold Entry.bindTo
  by_cases hc : c < e.high
  · simp [hc, Entry.markRefilled]
  · simp [hc]

/-! ### The binding -/

section

variable {s : State} {b : Bay}

/-- The bay as a binding opens it. -/
def State.bindingOpened (s : State) (b : Bay) (bd : Binding) : State :=
  s.modBay b fun r =>
    { r with
      phase := .active bd, slot := none, counter := 0, wanted := true
      surveyTimer := if s.converting b then none else some 0 }

/-- A binding before its triggers are evaluated: the meter is open, the table written, BOUND and REFILL latched. -/
def State.boundWith (s : State) (b : Bay) (bd : Binding) (entry : Entry) (rest : List Entry) : State :=
  let latched := (((s.bindingOpened b bd).flushTable (entry :: rest)).computeInk b).latch (baySite b) .bound
  if bd.isRefilled then latched.latch (baySite b) .refill else latched

/-- The entry of a binding as written: with the pending ink as owed while the save runs (R69). -/
def State.boundEntry (s : State) (bd : Binding) (entry : Entry) : Entry :=
  if s.save = .none then entry else bd.shadow entry

theorem bind_eq (s : State) (b : Bay) (rec' : TagRecord) (k : KeySlot) (c : Nat) :
    let e := (frontEntry s.table rec' c).1
    let bd := openBinding e rec' k c
    s.bind b rec' k c =
      (s.boundWith b bd (s.boundEntry bd (e.bindTo b rec' c)) (frontEntry s.table rec' c).2).evalStep b := by
  intro e bd
  have hentry : s.boundEntry bd (e.bindTo b rec' c) =
      if s.save == .none then e.bindTo b rec' c else bd.shadow (e.bindTo b rec' c) := by
    unfold State.boundEntry
    by_cases h : s.save = .none <;> simp [h]
  rw [hentry]
  rfl

theorem boundWith_only (s : State) (b : Bay) (bd : Binding) (entry : Entry) (rest : List Entry) :
    ActsOnly b s (s.boundWith b bd entry rest) := by
  have hlatched := (((modBay_only s b _).trans (flushTable_only (s.bindingOpened b bd) b (entry :: rest))).trans
    (computeInk_only _ b)).trans (latch_only _ b (baySite b) .bound)
  unfold State.boundWith
  dsimp only
  split
  · exact hlatched.trans (latch_only _ b _ _)
  · exact hlatched

theorem boundWith_bay (s : State) (b : Bay) (bd : Binding) (entry : Entry) (rest : List Entry) :
    let t := s.boundWith b bd entry rest
    (t.bay b).phase = .active (bd.setInk (inkOf (s.bay b).thresholds bd.capacity bd.remaining)) ∧
      (t.bay b).slot = none ∧ (t.bay b).counter = 0 ∧ (t.bay b).wanted = true := by
  have hopened : ((s.bindingOpened b bd).flushTable (entry :: rest)).bay b =
      { s.bay b with
        phase := .active bd, slot := none, counter := 0, wanted := true
        surveyTimer := if s.converting b then none else some 0 } := by
    rw [flushTable_bay]
    exact bay_modBay_same s b _
  have hbay : (s.boundWith b bd entry rest).bay b =
      (((s.bindingOpened b bd).flushTable (entry :: rest)).computeInk b).bay b := by
    unfold State.boundWith
    dsimp only
    split
    · rw [latch_bay, latch_bay]
    · rw [latch_bay]
  intro t
  show (((s.boundWith b bd entry rest).bay b).phase = _) ∧ ((s.boundWith b bd entry rest).bay b).slot = none ∧
    ((s.boundWith b bd entry rest).bay b).counter = 0 ∧ ((s.boundWith b bd entry rest).bay b).wanted = true
  rw [hbay]
  generalize (s.bindingOpened b bd).flushTable (entry :: rest) = u at hopened ⊢
  rw [computeInk_bay (bd := bd) (by rw [hopened]), hopened]
  exact ⟨rfl, rfl, rfl, rfl⟩

theorem boundWith_table (s : State) (b : Bay) (bd : Binding) (entry : Entry) (rest : List Entry) :
    (s.boundWith b bd entry rest).table = entry :: rest := by
  have htable : (((s.bindingOpened b bd).flushTable (entry :: rest)).computeInk b).table = entry :: rest := by
    rw [computeInk_table, flushTable_table]
  unfold State.boundWith
  dsimp only
  split
  · rw [latch_table, latch_table, htable]
  · rw [latch_table, htable]

theorem boundWith_latched (s : State) (b : Bay) (bd : Binding) (entry : Entry) (rest : List Entry) :
    (s.boundWith b bd entry rest).latchOf (baySite b) Kind.bound.code ≠ none ∧
      (bd.evidence ≠ [] → (s.boundWith b bd entry rest).latchOf (baySite b) Kind.refill.code ≠ none) := by
  unfold State.boundWith
  dsimp only
  cases hr : bd.isRefilled with
  | true =>
    rw [if_pos rfl]
    exact ⟨latch_stays _ _ _ _ _ (latch_set _ _ _), fun _ => latch_set _ _ _⟩
  | false =>
    rw [if_neg Bool.false_ne_true]
    refine ⟨latch_set _ _ _, fun he => ?_⟩
    unfold Binding.isRefilled at hr
    exact absurd (by simpa using hr) he

/-- The table after a change of a bound bay's commit record (R69). -/
theorem changeCommit_table {bd : Binding} (h : (s.bay b).phase = .active bd) (f : Binding → Binding) :
    (s.changeCommit b f).table = if s.save = .none then s.table else s.withEntry b (f bd).shadow := by
  have hphase : ((s.modBinding b f).bay b).phase = .active (f bd) := by rw [modBinding_active h]
  by_cases hs : s.save = .none
  · rw [if_pos hs, changeCommit_none s b f hs]
    rfl
  · unfold State.changeCommit State.shadowIfSaving
    rw [if_neg hs, if_neg (by simpa using hs), flushTable_table]
    unfold State.shadowTable
    rw [hphase]
    rfl

/-- The triggers of a newly bound bay write its shadow values again while the save runs, which changes nothing behind the
front entry. -/
theorem evalStep_table {bd : Binding} {entry : Entry} {rest : List Entry} (h : (s.bay b).phase = .active bd)
    (hstate : bd.commit.state.target? = none) (ht : s.table = entry :: rest)
    (hrest : s.save = .none ∨ (∀ e ∈ rest, e.bay ≠ some b))
    (hentry : s.save ≠ .none → bd.shadow entry = entry) : (s.evalStep b).table = entry :: rest := by
  by_cases hs : s.save = .none
  · rw [evalStep_unsaved b hs, ht]
  have hrest := hrest.resolve_left hs
  have hmap : ∀ bd' : Binding, bd'.acct = bd.acct → bd'.commit.state.target? = none →
      (entry :: rest).map (fun e => if e.bay = some b then bd'.shadow e else e) = entry :: rest := by
    intro bd' hacct htarget
    have hshadow : bd'.shadow entry = entry := by
      unfold Binding.shadow at hentry ⊢
      rw [hacct, htarget, ← hstate]
      exact hentry hs
    rw [List.map_cons, hshadow, ite_self]
    refine congrArg (entry :: ·) ((List.map_congr_left fun e he => if_neg (hrest e he)).trans (List.map_id' rest))
  unfold State.evalStep State.evalTriggers
  rw [active_of_phase h]
  dsimp only
  split
  · have hslot : (s.modBay b fun r => { r with slot := some .commit }).bay b = { s.bay b with slot := some .commit } :=
      bay_modBay_same s b _
    rw [changeCommit_table (bd := bd) (by rw [hslot]; exact h), modBay_save, if_neg hs]
    show s.table.map _ = _
    rw [ht]
    exact hmap _ rfl rfl
  · exact ht

/-- The entry of a binding, field by field (R52, R65, R69). -/
theorem boundEntry_fields (s : State) (b : Bay) (rec' : TagRecord) (k : KeySlot) (c : Nat) (e : Entry) :
    let entry := s.boundEntry (openBinding e rec' k c) (e.bindTo b rec' c)
    entry.bay = some b ∧ entry.serial = e.serial ∧ entry.product = rec'.product ∧ entry.capacity = rec'.capacity ∧
      entry.high = max e.high c ∧ entry.owed = (if s.save = .none then 0 else settle e c) ∧ entry.unsure = none ∧
      entry.lastSensed = e.lastSensed ∧ entry.cloneSeen = e.cloneSeen ∧
      entry.refilled = if c < e.high then e.refilled.or (some .rollback) else e.refilled := by
  rw [bindTo_eq]
  unfold State.boundEntry
  by_cases hs : s.save = .none
  · rw [if_pos hs, if_pos hs]
    exact ⟨rfl, rfl, rfl, rfl, rfl, rfl, rfl, rfl, rfl, rfl⟩
  · rw [if_neg hs, if_neg hs]
    exact ⟨rfl, rfl, rfl, rfl, rfl, rfl, rfl, rfl, rfl, rfl⟩

/-- The binding that a bind opens, with its entry in front (R51 to R55). -/
structure Binds (s t : State) (b : Bay) (rec' : TagRecord) (k : KeySlot) (c : Nat) : Prop where
  bay : ∃ record, (t.bay b).phase =
      .active { openBinding (frontEntry s.table rec' c).1 rec' k c with
        ink := inkOf (s.bay b).thresholds rec'.capacity
          (openBinding (frontEntry s.table rec' c).1 rec' k c).remaining
        commit := record } ∧ record.release = none ∧
      (record.state = .idle ∧ (t.bay b).slot = none ∨ record.state = .queued ∧ (t.bay b).slot = some .commit)
  schedule : (t.bay b).wanted = true ∧ (t.bay b).counter = 0
  latched : t.latchOf (baySite b) Kind.bound.code ≠ none
  refilled : firstEvidence (frontEntry s.table rec' c).1 c ≠ [] → t.latchOf (baySite b) Kind.refill.code ≠ none
  table : s.save = .none ∨ (∀ e ∈ s.table, e.bay ≠ some b) →
    t.table =
      s.boundEntry (openBinding (frontEntry s.table rec' c).1 rec' k c)
          ((frontEntry s.table rec' c).1.bindTo b rec' c) ::
        (frontEntry s.table rec' c).2

theorem bind_binds (s : State) (b : Bay) (rec' : TagRecord) (k : KeySlot) (c : Nat) :
    Binds s (s.bind b rec' k c) b rec' k c := by
  have hbind := bind_eq s b rec' k c
  have hrest := frontEntry_rest_subset (t := s.table) (rec' := rec') (c := c)
  dsimp only at hbind
  generalize hfront : frontEntry s.table rec' c = front at hbind hrest
  obtain ⟨hphase, hslot, hcounter, hwanted⟩ := boundWith_bay s b (openBinding front.1 rec' k c)
    (s.boundEntry (openBinding front.1 rec' k c) (front.1.bindTo b rec' c)) front.2
  have htable := boundWith_table s b (openBinding front.1 rec' k c)
    (s.boundEntry (openBinding front.1 rec' k c) (front.1.bindTo b rec' c)) front.2
  obtain ⟨hbound, hrefill⟩ := boundWith_latched s b (openBinding front.1 rec' k c)
    (s.boundEntry (openBinding front.1 rec' k c) (front.1.bindTo b rec' c)) front.2
  have hsave := (boundWith_only s b (openBinding front.1 rec' k c)
    (s.boundEntry (openBinding front.1 rec' k c) (front.1.bindTo b rec' c)) front.2).save
  rw [hbind]
  generalize s.boundWith b (openBinding front.1 rec' k c)
    (s.boundEntry (openBinding front.1 rec' k c) (front.1.bindTo b rec' c)) front.2 = u
    at hphase hslot hcounter hwanted htable hbound hrefill hsave ⊢
  obtain ⟨record, hstep, hrelease, hstate⟩ := evalStep_settled hphase rfl rfl
  have hbay := evalStep_bay hphase
  have hstays := (evalStep_only u b).latched
  rw [hslot] at hstate
  refine ⟨⟨record, ?_, hrelease, hstate⟩, ?_, hstays _ _ hbound, fun he => ?_, fun hnamed => ?_⟩
  · rw [hstep, hfront]
    rfl
  · rw [hbay]
    exact ⟨hwanted, hcounter⟩
  · rw [hfront] at he
    exact hstays _ _ (hrefill he)
  · rw [hfront]
    refine evalStep_table hphase rfl htable (by rw [hsave]; exact hnamed.imp_right fun h e he => h e (hrest e he))
      fun hs => ?_
    unfold State.boundEntry
    rw [if_neg (by rw [← hsave]; exact hs)]
    rfl

/-- An authentic CHALLENGE of an IDENTIFY leads to the identify checks (R45). -/
theorem judgeReply_identify_authentic {l : Lane} {x : Running} {rec' : TagRecord} {k : KeySlot} {n master : Key} {c : Nat}
    (hstep : x.step = .challenge) (hop : x.op = .identify) (hrec : x.record = some rec') (hk : rec'.keyIndex = k.val)
    (hn : x.nonce = some n) (hc : c < 2 ^ 24) (hm : s.masterKeys[k] = some master) :
    s.judgeReply l x (counterReply x.position c (tagResponse master rec'.serial n c)) =
      ((s.laneEnded l).identified (bayAt l x.position) rec' c).freeLane l := by
  have hauth := (replyAuthentic_counterReply (l := l) (response := tagResponse master rec'.serial n c) hc
    (identityFor_identify hop hrec hk)).mpr ⟨master, hm, rfl⟩
  rw [judgeReply_challenge hstep, hn, if_pos hauth, counterReply_counter hc, challengeCounter_identify hop hrec,
    endOperation_eq]

end

/-- Settles O45: a binding's outcome `Binds`, read with the entry that `frontEntry` found or made. -/
theorem identifyBinds : Obligations.IdentifyBinds := by
  intro s l x rec' k n master c haw hstep hop hrec hk hn hc hm b hfit hfree old high taken pending evidence
  have hexec := exec_counterReply haw (by rw [hstep]; nofun) c (tagResponse master rec'.serial n c)
  have hjudged := judgeReply_identify_authentic (l := l) (x := { x with timer := none }) hstep hop hrec hk hn hc hm
  rw [hjudged] at hexec
  have hholder : (s.laneEnded l).holder b rec'.serial = none :=
    holder_none (s := s.laneEnded l) fun j bd hj hbd => hfree j bd hj hbd
  have hothers := (identified_only (s.laneEnded l) b rec' c).others
  refine ⟨_, hexec, ?_⟩
  show let t := (s.laneEnded l).identified b rec' c; _
  rw [identified_binds (s := s.laneEnded l) hfit hholder hk] at hothers ⊢
  have hbinds := bind_binds (s.laneEnded l) b rec' k c
  generalize (s.laneEnded l).bind b rec' k c = t at hbinds hothers ⊢
  obtain ⟨⟨record, hphase, hrelease, hstate⟩, ⟨hwanted, hcounter⟩, hbound, hrefill, htable⟩ := hbinds
  obtain ⟨hhigh, hpending, hevidence, hsensed, hrefilled, hclone, hserial⟩ :=
    frontEntry_fields (t := s.table) (rec' := rec') (c := c)
  obtain ⟨hold, hnew, hevict⟩ := frontEntry_rest (t := s.table) (rec' := rec') (c := c)
  change (t.bay b).phase = .active { openBinding (frontEntry s.table rec' c).1 rec' k c with
    ink := inkOf (s.bay b).thresholds rec'.capacity (openBinding (frontEntry s.table rec' c).1 rec' k c).remaining
    commit := record } at hphase
  change firstEvidence (frontEntry s.table rec' c).1 c ≠ [] → _ at hrefill
  change s.save = .none ∨ (∀ e ∈ s.table, e.bay ≠ some b) → t.table =
    s.boundEntry (openBinding (frontEntry s.table rec' c).1 rec' k c)
      ((frontEntry s.table rec' c).1.bindTo b rec' c) :: (frontEntry s.table rec' c).2 at htable
  obtain ⟨fbay, fserial, fproduct, fcapacity, fhigh, fowed, funsure, fsensed, fclone, frefilled⟩ :=
    boundEntry_fields s b rec' k c (frontEntry s.table rec' c).1
  generalize frontEntry s.table rec' c = front at *
  refine ⟨⟨_, hphase, rfl, rfl, rfl, rfl, hevidence, ?_, rfl, hrelease, rfl, ?_, hstate⟩, hwanted, hcounter, hbound,
    fun he => hrefill (by rw [hevidence]; exact he), hothers, fun hnamed => ⟨_, _, htable hnamed, fbay,
      fserial.trans hserial, fproduct, fcapacity, fhigh.trans (by rw [hhigh]), fowed.trans (by rw [hpending]), funsure,
      fsensed.trans hsensed, fclone.trans hclone, frefilled.trans (by rw [hhigh, hrefilled]), hold, hnew, hevict⟩⟩
  · show Account.mk c (settle front.1 c) 0 0 (settle front.1 c) 0 0 false = _
    rw [hpending]
  · show front.1.lastSensed.isSome = _
    rw [hsensed]

end Sys2Proof.Machine

/-! The load of the sections and the entry into RUNNING (R9, R71, R134, R184, R185). -/

namespace Sys2Proof.Machine

section

variable {s : State}

/-! ### Arbiters and shadow writes with nothing to do -/

theorem arbitrate_idle (h : ∀ b, (s.bay b).slot = none) (l : Lane) : s.arbitrate l = s :=
  arbitrate_without_candidate fun _ op hc => absurd (hc.1.symm.trans (h _)) (Option.some_ne_none op)

theorem arbitrateAll_idle (h : ∀ b, (s.bay b).slot = none) : s.arbitrateAll = s := by
  unfold State.arbitrateAll allLanes
  simp only [List.foldl_cons, List.foldl_nil, arbitrate_idle h]

theorem shadowAll_unbound (h : ∀ b, (s.bay b).phase.binding? = none) : s.shadowAll = s := by
  have hset : ∀ b, s.setTable (s.shadowTable b) = s := fun b => by
    have hshadow : s.shadowTable b = s.table := by
      unfold State.shadowTable
      rw [h b]
    unfold State.setTable
    rw [if_pos hshadow]
  unfold State.shadowAll allBays
  simp only [List.foldl_cons, List.foldl_nil, hset]

/-! ### The entry into RUNNING (R9, R120, R134) -/

/-- The state as it enters RUNNING, before its lane arbiters. -/
def State.enteredRunning (s : State) : State :=
  (State.evalLines ({ s with device := .running }.mapBays fun b r => r.enterRunning (s.bayCfg b) s.raw[b])).mapLanes
    fun _ r => { r with supplyTimer := some 0, supplyDue := some s.now }

theorem enterRunning_phase_slot (cfg : BaySettings) (raw : Presence) (r : BayRec) :
    (r.enterRunning cfg raw).phase = (if cfg.disabled then r.phase else .vacant) ∧
      (r.enterRunning cfg raw).slot = r.slot ∧ (r.enterRunning cfg raw).thresholds = cfg.stored ∧
      (r.enterRunning cfg raw).filter = if cfg.disabled then r.filter else Filter.start raw := by
  unfold BayRec.enterRunning
  split <;> exact ⟨rfl, rfl, rfl, rfl⟩

theorem enteredRunning_bay (h : ∀ b, (s.bay b).phase = .off) (b : Bay) :
    s.enteredRunning.bay b = { (s.bay b).enterRunning (s.bayCfg b) s.raw[b] with line := .inhibit } := by
  have hbay : ({ s with device := .running }.mapBays fun b r => r.enterRunning (s.bayCfg b) s.raw[b]).bay b =
      (s.bay b).enterRunning (s.bayCfg b) s.raw[b] := bay_mapBays _ b _
  obtain ⟨hphase, -⟩ := enterRunning_phase_slot (s.bayCfg b) s.raw[b] (s.bay b)
  have hclosed : ((s.bay b).enterRunning (s.bayCfg b) s.raw[b]).phase.active? = none ∧
      ∀ reason d, ((s.bay b).enterRunning (s.bayCfg b) s.raw[b]).phase ≠ .rejected reason d := by
    rw [hphase, h]
    split <;> exact ⟨rfl, fun _ _ => nofun⟩
  have htarget : ({ s with device := .running }.mapBays fun b r => r.enterRunning (s.bayCfg b) s.raw[b]).target b =
      .inhibit := target_closed (by rw [hbay]; exact hclosed.1) (by rw [hbay]; exact hclosed.2)
  show ({ s with device := .running }.mapBays fun b r => r.enterRunning (s.bayCfg b) s.raw[b]).evalLines.bay b = _
  rw [evalLines_bay, htarget, hbay]
  rfl

theorem enteredRunning_frame (s : State) :
    s.enteredRunning =
      { s with device := .running, bays := s.enteredRunning.bays, lanes := s.enteredRunning.lanes } := rfl

/-- From a quiet state the arbiters find nothing to start at the entry into RUNNING. -/
theorem enterRunning_eq (hoff : ∀ b, (s.bay b).phase = .off) (hslot : ∀ b, (s.bay b).slot = none) :
    s.enterRunning = s.enteredRunning := by
  refine arbitrateAll_idle (s := s.enteredRunning) fun b => ?_
  obtain ⟨-, hkept, -⟩ := enterRunning_phase_slot (s.bayCfg b) s.raw[b] (s.bay b)
  rw [enteredRunning_bay hoff]
  exact hkept.trans (hslot b)

/-! ### What follows the entry (R185, R188) -/

theorem trigger_starts (hd : s.device = .running) (h : s.writer.dirty.isEmpty = false) :
    s.trigger.writer.writing ≠ none := by
  have hd' : s.device ≠ .faulted := fun hf => absurd (hd.symm.trans hf) (by decide)
  cases hw : s.writer.writing with
  | some c =>
    rw [trigger_writing hd' hw]
    exact fun hn => absurd (hw.symm.trans hn) (Option.some_ne_none c)
  | none =>
    cases ht : s.writer.dirty.table with
    | true => rw [trigger_table hd' hw ht]; exact Option.some_ne_none _
    | false =>
      cases hp : s.writer.dirty.policy with
      | true => rw [trigger_policy hd' hw ht hp]; exact Option.some_ne_none _
      | false =>
        cases hs : s.writer.dirty.settings with
        | true => rw [trigger_settings hd' hw ht hp hs]; exact Option.some_ne_none _
        | false => simp [Sections.isEmpty, ht, hp, hs] at h

/-- A dirty set triggers the store writer. -/
def State.triggeredIfDirty (s : State) : State := if s.writer.dirty.isEmpty then s else s.trigger

/-- An asserted PFAIL input is taken as an assertion. -/
def State.savedIfPfail (s : State) : State := if s.pfail then s.pfailSave else s

theorem triggeredIfDirty_frame (s : State) :
    s.triggeredIfDirty = { s with writer := s.triggeredIfDirty.writer } := by
  unfold State.triggeredIfDirty
  split
  · rfl
  · next h => exact trigger_frame (by simpa using h)

theorem triggeredIfDirty_writing (hd : s.device = .running) (h : s.writer.dirty.isEmpty = false) :
    s.triggeredIfDirty.writer.writing ≠ none := by
  unfold State.triggeredIfDirty
  rw [if_neg (by rw [h]; exact Bool.false_ne_true)]
  exact trigger_starts hd h

/-- The state once PFAIL has been looked at: with no bay bound, only writer and save state can have changed. -/
theorem savedIfPfail_frame (h : ∀ b, (s.bay b).phase.binding? = none) :
    s.savedIfPfail = { s with writer := s.savedIfPfail.writer, save := s.savedIfPfail.save } ∧
      (s.writer.writing ≠ none → s.savedIfPfail.writer.writing ≠ none) ∧
      (s.device = .running → s.save = .none → s.pfail = true → s.restarting = false →
        s.savedIfPfail.save = .saving) := by
  by_cases hsaves : s.pfail = true ∧ s.device = .running ∧ s.save = .none ∧ s.restarting = false
  · obtain ⟨hp, hd, hs, hr⟩ := hsaves
    have hframe := tableFlushed_frame { s with save := .saving }
    have hwriting : ∀ c, s.writer.writing = some c →
        (State.tableFlushed { s with save := .saving }).writer.writing = some c :=
      fun c hc => (tableFlushed_writing { s with save := .saving } hc).1
    have hsaved : s.savedIfPfail = State.tableFlushed { s with save := .saving } := by
      unfold State.savedIfPfail
      rw [if_pos hp, pfailSave_saves hd hs hr, shadowAll_unbound h]
    rw [hsaved]
    generalize State.tableFlushed { s with save := .saving } = t at hframe hwriting ⊢
    have hsave : t.save = .saving := by rw [hframe]
    refine ⟨?_, fun hw => ?_, fun _ _ _ _ => hsave⟩
    · rw [hsave]
      exact hframe
    · obtain ⟨c, hc⟩ := Option.ne_none_iff_exists'.mp hw
      rw [hwriting c hc]
      exact Option.some_ne_none c
  · have hkept : s.savedIfPfail = s := by
      unfold State.savedIfPfail
      by_cases hp : s.pfail = true
      · rw [if_pos hp]
        refine pfailSave_ignored ?_
        by_contra hno
        push Not at hno
        exact hsaves ⟨hp, hno.1, hno.2.1, (Bool.not_eq_true _).mp hno.2.2⟩
      · rw [if_neg hp]
    rw [hkept]
    exact ⟨rfl, id, fun hd hs hp hr => absurd ⟨hp, hd, hs, hr⟩ hsaves⟩

/-- What follows the entry into RUNNING, in the order of R185. -/
def State.loadFinished (s : State) : State := s.triggeredIfDirty.savedIfPfail.settleConverter

theorem loadFinished_frame (h : ∀ b, (s.bay b).phase.binding? = none) :
    s.loadFinished =
      { s with
        writer := s.loadFinished.writer, save := s.loadFinished.save, bays := s.loadFinished.bays
        lanes := s.loadFinished.lanes, converter := s.loadFinished.converter, run := s.loadFinished.run } := by
  have htriggered := triggeredIfDirty_frame s
  have hunbound : ∀ b, (s.triggeredIfDirty.bay b).phase.binding? = none := fun b => by rw [htriggered]; exact h b
  have hsaved := (savedIfPfail_frame hunbound).1
  have hsettled := settleConverter_frame s.triggeredIfDirty.savedIfPfail
  unfold State.loadFinished
  generalize s.triggeredIfDirty.savedIfPfail.settleConverter = v at hsettled ⊢
  generalize s.triggeredIfDirty.savedIfPfail = u at hsaved hsettled ⊢
  generalize s.triggeredIfDirty = w at htriggered hsaved ⊢
  rw [hsettled, hsaved, htriggered]

theorem loadFinished_scheduled (h : ∀ b, (s.bay b).phase.binding? = none) : AllScheduled s s.loadFinished := by
  have htriggered := triggeredIfDirty_frame s
  have hunbound : ∀ b, (s.triggeredIfDirty.bay b).phase.binding? = none := fun b => by rw [htriggered]; exact h b
  have hsaved := (savedIfPfail_frame hunbound).1
  intro b
  have hbay : s.triggeredIfDirty.savedIfPfail.bay b = s.bay b := by
    generalize s.triggeredIfDirty.savedIfPfail = u at hsaved ⊢
    generalize s.triggeredIfDirty = w at htriggered hsaved ⊢
    rw [hsaved, htriggered]
    rfl
  have hsettled := settleConverter_scheduled s.triggeredIfDirty.savedIfPfail b
  rw [hbay] at hsettled
  exact hsettled

theorem loadFinished_writing (h : ∀ b, (s.bay b).phase.binding? = none) (hd : s.device = .running)
    (hdirty : s.writer.dirty.isEmpty = false) : s.loadFinished.writer.writing ≠ none := by
  have htriggered := triggeredIfDirty_frame s
  have hunbound : ∀ b, (s.triggeredIfDirty.bay b).phase.binding? = none := fun b => by rw [htriggered]; exact h b
  unfold State.loadFinished
  rw [(settleConverter_table _).2.1]
  exact (savedIfPfail_frame hunbound).2.1 (triggeredIfDirty_writing hd hdirty)

theorem loadFinished_saves (h : ∀ b, (s.bay b).phase.binding? = none) (hd : s.device = .running) (hs : s.save = .none)
    (hp : s.pfail = true) (hr : s.restarting = false) : s.loadFinished.save = .saving := by
  have htriggered := triggeredIfDirty_frame s
  have hunbound : ∀ b, (s.triggeredIfDirty.bay b).phase.binding? = none := fun b => by rw [htriggered]; exact h b
  have hsettled : s.loadFinished.save = s.triggeredIfDirty.savedIfPfail.save :=
    (settleConverter_core s.triggeredIfDirty.savedIfPfail).save
  rw [hsettled]
  exact (savedIfPfail_frame hunbound).2.2 (by rw [htriggered]; exact hd) (by rw [htriggered]; exact hs)
    (by rw [htriggered]; exact hp) (by rw [htriggered]; exact hr)

/-! ### The sections (R71, R184) -/

/-- The sections loaded, and a lost one latched as STORE_FAULT. -/
def State.sectionsLatched (s : State) : State :=
  if s.loadSections.writer.dirty.isEmpty then s.loadSections else s.loadSections.latch deviceSite .storeFault

theorem loadAnswered_eq (s : State) : s.loadAnswered = s.sectionsLatched.enterRunning.loadFinished := rfl

theorem sectionsLatched_frame (s : State) :
    s.sectionsLatched = { s.loadSections with latches := s.sectionsLatched.latches } := by
  unfold State.sectionsLatched
  split
  · rfl
  · rw [latch_frame]

theorem sectionsLatched_latched (h : s.loadSections.writer.dirty.isEmpty = false) :
    s.sectionsLatched.latchOf deviceSite Kind.storeFault.code ≠ none := by
  unfold State.sectionsLatched
  rw [if_neg (by rw [h]; exact Bool.false_ne_true)]
  exact latch_set _ _ _

/-- An answered load from a quiet state, in one frame: the sections, the bays as they enter RUNNING, and what follows. -/
theorem loadAnswered_quiet (hoff : ∀ b, (s.bay b).phase = .off) (hslot : ∀ b, (s.bay b).slot = none) :
    s.loadAnswered = s.sectionsLatched.enteredRunning.loadFinished ∧
      ∀ b, s.sectionsLatched.enteredRunning.bay b =
        { (s.bay b).enterRunning (s.loadSections.bayCfg b) s.raw[b] with line := .inhibit } := by
  have hframe := sectionsLatched_frame s
  have hbays : ∀ b, s.sectionsLatched.bay b = s.bay b := fun b => by rw [hframe]; rfl
  have hcfg : ∀ b, s.sectionsLatched.bayCfg b = s.loadSections.bayCfg b := fun b => by rw [hframe]; rfl
  have hraw : ∀ b : Bay, s.sectionsLatched.raw[b] = s.raw[b] := fun b => by rw [hframe]; rfl
  refine ⟨?_, fun b => ?_⟩
  · rw [loadAnswered_eq, enterRunning_eq (fun b => by rw [hbays]; exact hoff b) fun b => by rw [hbays]; exact hslot b]
  · rw [enteredRunning_bay (fun b => by rw [hbays]; exact hoff b), hbays, hcfg, hraw]

/-- No bay is bound right after the entry into RUNNING. -/
theorem enteredRunning_unbound (hoff : ∀ b, (s.bay b).phase = .off) (b : Bay) :
    (s.enteredRunning.bay b).phase.binding? = none := by
  obtain ⟨hphase, -⟩ := enterRunning_phase_slot (s.bayCfg b) s.raw[b] (s.bay b)
  rw [enteredRunning_bay hoff]
  show ((s.bay b).enterRunning (s.bayCfg b) s.raw[b]).phase.binding? = none
  rw [hphase, hoff]
  split <;> rfl

/-- The parts of the state that the sections alone decide, after an answered load. -/
theorem loadAnswered_frame (hoff : ∀ b, (s.bay b).phase = .off) (hslot : ∀ b, (s.bay b).slot = none) :
    s.loadAnswered =
      { s.loadSections with
        device := .running, latches := s.sectionsLatched.latches, writer := s.loadAnswered.writer
        save := s.loadAnswered.save, bays := s.loadAnswered.bays, lanes := s.loadAnswered.lanes
        converter := s.loadAnswered.converter, run := s.loadAnswered.run } := by
  obtain ⟨hload, -⟩ := loadAnswered_quiet hoff hslot
  have hlatched := sectionsLatched_frame s
  have hoff' : ∀ b, (s.sectionsLatched.bay b).phase = .off := fun b => by rw [hlatched]; exact hoff b
  have hfinished := loadFinished_frame (enteredRunning_unbound hoff')
  have hentered := enteredRunning_frame s.sectionsLatched
  rw [hload]
  generalize s.sectionsLatched.enteredRunning.loadFinished = t at hfinished ⊢
  generalize s.sectionsLatched.enteredRunning = u at hfinished hentered
  generalize s.sectionsLatched = v at hlatched hentered ⊢
  rw [hfinished, hentered, hlatched]

/-- A bay after an answered load (R9, R120, R134). -/
theorem loadAnswered_bay (hoff : ∀ b, (s.bay b).phase = .off) (hslot : ∀ b, (s.bay b).slot = none) (b : Bay) :
    (s.loadAnswered.bay b).phase = (if (s.loadSections.bayCfg b).disabled then .off else .vacant) ∧
      (s.loadAnswered.bay b).filter =
        (if (s.loadSections.bayCfg b).disabled then (s.bay b).filter else Filter.start s.raw[b]) ∧
      (s.loadAnswered.bay b).line = .inhibit ∧
      (s.loadAnswered.bay b).thresholds = (s.loadSections.bayCfg b).stored := by
  obtain ⟨hload, hentered⟩ := loadAnswered_quiet hoff hslot
  have hlatched := sectionsLatched_frame s
  have hoff' : ∀ b, (s.sectionsLatched.bay b).phase = .off := fun b => by rw [hlatched]; exact hoff b
  have hfinished := loadFinished_scheduled (enteredRunning_unbound hoff') b
  rw [← hload] at hfinished
  obtain ⟨hphase, -, hthresholds, hfilter⟩ := enterRunning_phase_slot (s.loadSections.bayCfg b) s.raw[b] (s.bay b)
  rw [hfinished.phase, hfinished.filter, hfinished.line, hfinished.thresholds, hentered]
  exact ⟨hphase.trans (by rw [hoff]), hfilter, rfl, hthresholds⟩

/-- A load with a dirty section starts a write (R185). -/
theorem loadAnswered_writing (hoff : ∀ b, (s.bay b).phase = .off) (hslot : ∀ b, (s.bay b).slot = none)
    (h : s.loadSections.writer.dirty.isEmpty = false) : s.loadAnswered.writer.writing ≠ none := by
  obtain ⟨hload, -⟩ := loadAnswered_quiet hoff hslot
  have hlatched := sectionsLatched_frame s
  have hoff' : ∀ b, (s.sectionsLatched.bay b).phase = .off := fun b => by rw [hlatched]; exact hoff b
  have hwriter : s.sectionsLatched.enteredRunning.writer = s.loadSections.writer := by
    show s.sectionsLatched.writer = _
    rw [hlatched]
  rw [hload]
  exact loadFinished_writing (enteredRunning_unbound hoff') rfl (by rw [hwriter]; exact h)

theorem loadAnswered_saves (hoff : ∀ b, (s.bay b).phase = .off) (hslot : ∀ b, (s.bay b).slot = none)
    (hs : s.save = .none) (hp : s.pfail = true) (hr : s.restarting = false) : s.loadAnswered.save = .saving := by
  obtain ⟨hload, -⟩ := loadAnswered_quiet hoff hslot
  have hlatched := sectionsLatched_frame s
  have hoff' : ∀ b, (s.sectionsLatched.bay b).phase = .off := fun b => by rw [hlatched]; exact hoff b
  rw [hload]
  refine loadFinished_saves (enteredRunning_unbound hoff') rfl ?_ ?_ ?_
  · show s.sectionsLatched.save = _
    rw [hlatched]
    exact hs
  · show s.sectionsLatched.pfail = _
    rw [hlatched]
    exact hp
  · show s.sectionsLatched.restarting = _
    rw [hlatched]
    exact hr

/-- The sections a load finds damaged or missing are dirty. -/
theorem damaged_dirty (s : State) {p c d : Bool} (h : (p || c || d) = true) :
    (State.loadSections { s with store := s.store.damaged p c d }).writer.dirty.isEmpty = false := by
  cases p with
  | true => simp [State.loadSections, Store.damaged, Sections.isEmpty]
  | false =>
    cases c with
    | true => simp [State.loadSections, Store.damaged, Sections.isEmpty]
    | false =>
      obtain rfl : d = true := by simpa using h
      simp [State.loadSections, Store.damaged, Store.goodTable, Sections.isEmpty]

/-- The sections after a load, by what it found damaged (R71, R184). -/
theorem damaged_sections (s : State) (p c d : Bool) :
    let t := State.loadSections { s with store := s.store.damaged p c d }
    t.settings = (if c then Settings.factory else s.store.settings.getD Settings.factory) ∧
      t.policy =
        ((if p then Policy.strict s.oneWay else s.store.policy.getD (Policy.strict s.oneWay)).underMarks s.oneWay) ∧
      t.table = (((if d then none else s.store.table).filter tableShapeOk).getD []).map fun e => { e with bay := none } := by
  refine ⟨?_, ?_, rfl⟩
  · cases c <;> rfl
  · cases p <;> rfl

/-- The marks hold in a policy under them (R184). -/
theorem underMarks_holds (p : Policy) (o : OneWay) :
    (o.sealMark = true → (p.underMarks o).isSealed = true) ∧ (p.underMarks o).allowed &&& o.revoked = 0 := by
  refine ⟨fun h => ?_, ?_⟩
  · show (p.isSealed || o.sealMark) = true
    rw [h, Bool.or_true]
  · refine BitVec.eq_of_getLsbD_eq fun i _ => ?_
    simp [Policy.underMarks, Bool.and_assoc]

/-! ### A load that fails (R185) -/

/-- The defaults of a FAULTED device, with every line evaluated. -/
def State.faultedDefaults (s : State) : State :=
  State.evalLines
    ({ s with
        policy := (Policy.strict s.oneWay).underMarks s.oneWay, settings := Settings.factory, table := []
        device := .faulted }.mapBays fun _ r => { r with thresholds := Thresholds.factory })

theorem loadFailed_eq (s : State) : s.loadFailed = s.faultedDefaults.latch deviceSite .storeFault := rfl

theorem faultedDefaults_bay (s : State) (b : Bay) :
    s.faultedDefaults.bay b = { s.bay b with thresholds := Thresholds.factory, line := .inhibit } := by
  unfold State.faultedDefaults
  rw [evalLines_bay, target_not_running (by show DeviceState.faulted ≠ .running; nofun), bay_mapBays]
  rfl

end

/-- Settles O5. -/
theorem loadCompletionStarts : Obligations.LoadCompletionStarts := by
  intro s p c d hstart hquiet hwriter hsave
  obtain ⟨hquiet, -⟩ := hquiet
  obtain ⟨hbays, -⟩ := hquiet (by rw [hstart]; nofun)
  have hoff : ∀ b, (s.bay b).phase = .off := fun b => (hbays b).1
  have hslot : ∀ b, (s.bay b).slot = none := fun b => (hbays b).2
  refine ⟨?_, ?_⟩
  · have hexec : exec (.loadCompletion true p c d) s =
        .next (State.loadAnswered { s with store := s.store.damaged p c d }) := by
      show Host.Outcome.next (s.loadComplete true p c d) = _
      unfold State.loadComplete
      rw [hstart]
      rfl
    obtain ⟨hsettings, hpolicy, htable⟩ := damaged_sections s p c d
    have hdirty := damaged_dirty s (p := p) (c := c) (d := d)
    obtain ⟨hseal, hrevoked⟩ := underMarks_holds
      (if p then Policy.strict s.oneWay else s.store.policy.getD (Policy.strict s.oneWay)) s.oneWay
    rw [← hpolicy] at hseal hrevoked
    have hframe := loadAnswered_frame (s := { s with store := s.store.damaged p c d }) hoff hslot
    have hbay := loadAnswered_bay (s := { s with store := s.store.damaged p c d }) hoff hslot
    have hwriting := loadAnswered_writing (s := { s with store := s.store.damaged p c d }) hoff hslot
    have hsaves := loadAnswered_saves (s := { s with store := s.store.damaged p c d }) hoff hslot hsave
    have hlatched := sectionsLatched_latched (s := { s with store := s.store.damaged p c d })
    refine ⟨_, hexec, ?_⟩
    generalize State.loadAnswered { s with store := s.store.damaged p c d } = t at hframe hbay hwriting hsaves ⊢
    generalize State.sectionsLatched { s with store := s.store.damaged p c d } = latched at hframe hlatched
    generalize State.loadSections { s with store := s.store.damaged p c d } = u
      at hframe hbay hwriting hsettings hpolicy htable hdirty hseal hrevoked hlatched
    have hcfg : ∀ b, t.bayCfg b = u.bayCfg b := fun b => by rw [hframe]; rfl
    have htable' : t.table = u.table := by rw [hframe]
    have hpolicy' : t.policy = u.policy := by rw [hframe]
    refine ⟨by rw [hframe], by rw [hframe]; exact hsettings, hpolicy'.trans hpolicy, by rw [hpolicy']; exact hseal,
      by rw [hpolicy']; exact hrevoked, fun _ => htable'.trans htable, fun e he => ?_, fun b => ?_, fun b => ?_,
      fun hdamaged => ?_, hsaves⟩
    · rw [htable', htable] at he
      obtain ⟨e', -, rfl⟩ := List.mem_map.mp he
      rfl
    · obtain ⟨hphase, hfilter, -, -⟩ := hbay b
      rw [hcfg, hphase, hfilter]
      split
      · rfl
      · exact ⟨rfl, rfl⟩
    · obtain ⟨-, -, hline, hthresholds⟩ := hbay b
      rw [hcfg]
      exact ⟨hline, hthresholds⟩
    · have hd := hdirty (by simpa [or_assoc] using hdamaged)
      refine ⟨?_, hwriting hd⟩
      rw [hframe]
      exact hlatched hd
  · have hexec : exec (.loadCompletion false p c d) s = .next s.loadFailed := by
      show Host.Outcome.next (s.loadComplete false p c d) = _
      unfold State.loadComplete
      rw [hstart]
      rfl
    have hframe := latch_frame s.faultedDefaults deviceSite .storeFault
    refine ⟨_, hexec, ?_⟩
    rw [loadFailed_eq]
    have hbay : ∀ b, (s.faultedDefaults.latch deviceSite .storeFault).bay b =
        { s.bay b with thresholds := Thresholds.factory, line := .inhibit } :=
      fun b => (latch_bay _ _ _ b).trans (faultedDefaults_bay s b)
    have hlatch : (s.faultedDefaults.latch deviceSite .storeFault).latchOf deviceSite Kind.storeFault.code ≠ none :=
      latch_set _ _ _
    generalize s.faultedDefaults.latch deviceSite .storeFault = t at hframe hbay hlatch ⊢
    refine ⟨by rw [hframe]; rfl, by rw [hframe]; rfl, by rw [hframe]; rfl, by rw [hframe]; rfl, by rw [hframe]; rfl,
      fun b => ?_, hlatch, by rw [hframe]; rfl⟩
    rw [hbay]
    exact ⟨hoff b, rfl⟩

end Sys2Proof.Machine

/-! Slices of bodies: the bytes at an offset of a body that is laid out field by field (R177), and the body of BAY_GET. -/

namespace Sys2Proof.Machine

/-! ### Slices -/

@[simp] theorem bytesAt_append (xs ys : List Byte) (start n : Nat) :
    bytesAt (xs ++ ys) start n =
      bytesAt xs start n ++ bytesAt ys (start - xs.length) (n - (xs.length - start)) := by
  simp [bytesAt, List.drop_append, List.take_append]

@[simp] theorem bytesAt_width_zero (xs : List Byte) (start : Nat) : bytesAt xs start 0 = [] := List.take_zero

@[simp] theorem bytesAt_cons_zero (x : Byte) (xs : List Byte) (n : Nat) :
    bytesAt (x :: xs) 0 (n + 1) = x :: bytesAt xs 0 n := rfl

@[simp] theorem bytesAt_cons_succ (x : Byte) (xs : List Byte) (start n : Nat) :
    bytesAt (x :: xs) (start + 1) n = bytesAt xs start n := rfl

@[simp] theorem bytesAt_nil (start n : Nat) : bytesAt [] start n = [] := by simp [bytesAt]

theorem bytesAt_whole {xs : List Byte} {n : Nat} (h : xs.length ≤ n) : bytesAt xs 0 n = xs := List.take_of_length_le h

theorem bytesAt_past {xs : List Byte} {start : Nat} (h : xs.length ≤ start) (n : Nat) : bytesAt xs start n = [] := by
  rw [bytesAt, List.drop_eq_nil_of_le h, List.take_nil]

theorem bytesAt_bytesAt {xs : List Byte} {a m j n : Nat} (h : j + n ≤ m) :
    bytesAt (bytesAt xs a m) j n = bytesAt xs (a + j) n := by
  simp only [bytesAt, List.drop_take, List.take_take, List.drop_drop]
  congr 1
  omega

theorem drop_eq_bytesAt {xs : List Byte} {start n : Nat} (h : xs.length ≤ start + n) :
    xs.drop start = bytesAt xs start n :=
  (List.take_of_length_le (by rw [List.length_drop]; omega)).symm

theorem getD_eq_bytesAt (xs : List Byte) (i : Nat) (d : Byte) : xs.getD i d = (bytesAt xs i 1).headD d := by
  induction xs generalizing i with
  | nil => simp [bytesAt]
  | cons x xs ih =>
    cases i with
    | zero => rfl
    | succ i => simpa [bytesAt] using ih i

/-- A slice of the parts that a list gives, all of one width. -/
theorem bytesAt_flatMap {α : Type} {f : α → List Byte} {w : Nat} (hw : ∀ x, (f x).length = w) (l : List α) (i : Nat)
    (x : α) (h : l[i]? = some x) : bytesAt (l.flatMap f) (w * i) w = f x := by
  induction l generalizing i with
  | nil => simp at h
  | cons y l ih =>
    cases i with
    | zero =>
      obtain rfl : y = x := by simpa using h
      rw [List.flatMap_cons, Nat.mul_zero, bytesAt, List.drop_zero, List.take_left' (hw y)]
    | succ i =>
      rw [List.flatMap_cons, bytesAt_append, bytesAt_past (by rw [hw, Nat.mul_succ]; omega), hw, List.nil_append,
        Nat.mul_succ, Nat.add_sub_cancel, Nat.sub_eq_zero_of_le (Nat.le_add_left w (w * i)), Nat.sub_zero]
      exact ih i (by simpa using h)

theorem flatMap_width {α : Type} {f : α → List Byte} {w : Nat} (hw : ∀ x, (f x).length = w) (l : List α) :
    (l.flatMap f).length = w * l.length := by
  induction l with
  | nil => rfl
  | cons y l ih => rw [List.flatMap_cons, List.length_append, hw, ih, List.length_cons, Nat.mul_succ, Nat.add_comm]

/-! ### The widths of fields (R177) -/

@[simp] theorem byteOrAbsent_length (v : Option Nat) : (byteOrAbsent v).length = 1 := by
  cases v with
  | none => rfl
  | some v => exact toBytes_length 1 v

@[simp] theorem wordOrAbsent_length (v : Option Nat) : (wordOrAbsent v).length = 2 := by
  cases v with
  | none => rfl
  | some v => exact toBytes_length 2 v

@[simp] theorem wideOrAbsent_length (n : Nat) (v : Option Nat) : (wideOrAbsent n v).length = n := toBytes_length n _

theorem toBytes_zero (n : Nat) : toBytes n 0 = List.replicate n 0 := by
  induction n with
  | zero => rfl
  | succ n ih =>
    rw [toBytes, ih, Nat.zero_div, List.replicate_succ]
    rfl

/-- A field with no value to give: 0 when it is three bytes wide or more (R177). -/
theorem wideOrAbsent_none (n : Nat) : wideOrAbsent n none = List.replicate n 0 := toBytes_zero n

theorem wideOrAbsent_some (n v : Nat) : wideOrAbsent n (some v) = toBytes n v := rfl

theorem byteOrAbsent_some (v : Nat) : byteOrAbsent (some v) = toBytes 1 v := rfl

theorem byteOrAbsent_none : byteOrAbsent none = [0xFF] := rfl

theorem wordOrAbsent_some (v : Nat) : wordOrAbsent (some v) = toBytes 2 v := rfl

theorem wordOrAbsent_none : wordOrAbsent none = [0xFF, 0xFF] := rfl

/-! ### Bits of a byte -/

theorem bitsByte_low (a b c d : Bool) :
    [bitsByte false false false false a b c d] =
      toBytes 1 ((if d then 1 else 0) + (if c then 2 else 0) + (if b then 4 else 0) + if a then 8 else 0) := by
  decide +revert

/-- The set of evidence as a sum over the five kinds (R181). -/
theorem evidenceBits_eq {ev : List EvidenceKind} (h : ev.Nodup) :
    evidenceBits ev =
      (if EvidenceKind.levelRise ∈ ev then 1 else 0) + (if EvidenceKind.reinsertRise ∈ ev then 2 else 0) +
        (if EvidenceKind.rollback ∈ ev then 4 else 0) + (if EvidenceKind.advanceRefused ∈ ev then 8 else 0) +
        if EvidenceKind.knownRefilled ∈ ev then 16 else 0 := by
  have hacc : ∀ (ev : List EvidenceKind) (n : Nat),
      ev.foldl (fun acc k => acc + 2 ^ k.code) n = n + evidenceBits ev := by
    intro ev
    induction ev with
    | nil => exact fun n => rfl
    | cons k ev ih =>
      intro n
      unfold evidenceBits
      rw [List.foldl_cons, List.foldl_cons, ih, ih]
      omega
  induction ev with
  | nil => rfl
  | cons k ev ih =>
    obtain ⟨hk, hev⟩ := List.nodup_cons.mp h
    have hcons : evidenceBits (k :: ev) = 2 ^ k.code + evidenceBits ev := by
      unfold evidenceBits
      rw [List.foldl_cons, hacc, Nat.zero_add]
      rfl
    rw [hcons, ih hev]
    cases k <;> simp [hk, EvidenceKind.code] <;> omega

/-- The bit of a kind in the byte of an evidence set (R181). -/
theorem evidenceBits_bit {ev : List EvidenceKind} (h : ev.Nodup) (k : EvidenceKind) :
    (BitVec.ofNat 8 (evidenceBits ev)).getLsbD k.code = decide (k ∈ ev) := by
  have hbits : ∀ (v w x y z : Bool) (k : EvidenceKind),
      (BitVec.ofNat 8 ((if v then 1 else 0) + (if w then 2 else 0) + (if x then 4 else 0) + (if y then 8 else 0) +
        if z then 16 else 0)).getLsbD k.code =
      match k with
      | .levelRise => v
      | .reinsertRise => w
      | .rollback => x
      | .advanceRefused => y
      | .knownRefilled => z := by
    intro v w x y z k
    cases k <;> decide +revert
  have hkind := hbits (decide (EvidenceKind.levelRise ∈ ev)) (decide (EvidenceKind.reinsertRise ∈ ev))
    (decide (EvidenceKind.rollback ∈ ev)) (decide (EvidenceKind.advanceRefused ∈ ev))
    (decide (EvidenceKind.knownRefilled ∈ ev)) k
  simp only [decide_eq_true_eq] at hkind
  rw [evidenceBits_eq h, hkind]
  cases k <;> rfl

/-! ### The body of BAY_GET (R182) -/

section

variable {s : State} {b : Bay}

theorem bayBody_length (s : State) (b : Bay) : (s.bayBody b).length = 27 := by simp [State.bayBody]

theorem bayBody_front (s : State) (b : Bay) :
    (s.bayBody b).take 3 =
      toBytes 1 b.val ++ toBytes 1 (s.bay b).phase.code ++ toBytes 1 (slotCodeOf (s.bay b).slot) := by
  show bytesAt (s.bayBody b) 0 3 = _
  simp [State.bayBody, bytesAt_whole]

theorem bayBody_presence (s : State) (b : Bay) :
    bytesAt (s.bayBody b) 3 3 =
      toBytes 1 ((if (s.bay b).filter.level = .seated then 1 else 0) + (if (s.bay b).filter.window = none then 0 else 2) +
        (if s.raw[b] = .seated then 4 else 0) + if (s.bayCfg b).disabled then 8 else 0) ++
        toBytes 2 (s.bayCfg b).slotCode.toNat := by
  have hslice : bytesAt (s.bayBody b) 3 3 =
      [bitsByte false false false false (s.bayCfg b).disabled (s.raw[b] == .seated) (s.bay b).filter.window.isSome
        ((s.bay b).filter.level == .seated)] ++ toBytes 2 (s.bayCfg b).slotCode.toNat := by
    simp [State.bayBody, bytesAt_whole, bytesAt_past]
  rw [hslice, bitsByte_low]
  have hwindow : (if (s.bay b).filter.window.isSome = true then 2 else 0) =
      if (s.bay b).filter.window = none then 0 else 2 := by
    cases (s.bay b).filter.window <;> rfl
  rw [hwindow]
  simp only [beq_iff_eq]

theorem bayBody_line (s : State) (b : Bay) : (s.bayBody b).drop 26 = toBytes 1 (s.bay b).line.code := by
  rw [drop_eq_bytesAt (n := 1) (by rw [bayBody_length])]
  simp [State.bayBody, bytesAt_whole, bytesAt_past]

/-- The fields of a bound bay's binding. -/
theorem bayBody_bound {bd : Binding} (h : (s.bay b).phase.binding? = some bd) :
    bytesAt (s.bayBody b) 10 8 = toBytes 8 bd.serial.toNat ∧ bytesAt (s.bayBody b) 20 3 = toBytes 3 bd.capacity ∧
      bytesAt (s.bayBody b) 24 1 = toBytes 1 bd.commit.state.code ∧
      bytesAt (s.bayBody b) 18 2 = toBytes 2 bd.product.toNat ∧ bytesAt (s.bayBody b) 23 1 = toBytes 1 bd.keyIndex.val ∧
      bytesAt (s.bayBody b) 25 1 = toBytes 1 bd.ink.code := by
  refine ⟨?_, ?_, ?_, ?_, ?_, ?_⟩ <;>
    simp [State.bayBody, h, bytesAt_whole, bytesAt_past, wideOrAbsent_some, byteOrAbsent_some, wordOrAbsent_some]

/-- The verdict and the evidence of a bound bay. -/
theorem bayBody_evidence {bd : Binding} (h : (s.bay b).phase.binding? = some bd) :
    bytesAt (s.bayBody b) 6 2 = byteOrAbsent ((s.bay b).phase.reason?.map (·.code)) ++
        toBytes 1 (if bd.isRefilled then 1 else 0) ∧
      bytesAt (s.bayBody b) 8 1 = toBytes 1 (evidenceBits bd.evidence) ∧
      bytesAt (s.bayBody b) 9 1 = byteOrAbsent (bd.evidence.head?.map (·.code)) := by
  refine ⟨?_, ?_, ?_⟩ <;>
    simp [State.bayBody, h, bytesAt_whole, bytesAt_past, byteOrAbsent_some]

theorem reason_of_bound {p : Phase} {bd : Binding} (h : p.binding? = some bd) : p.reason? = none := by
  cases p <;> first | rfl | simp [Phase.binding?] at h

/-- The fields of a bay with no binding. -/
theorem bayBody_unbound (h : (s.bay b).phase.binding? = none) :
    bytesAt (s.bayBody b) 6 1 = byteOrAbsent ((s.bay b).phase.reason?.map (·.code)) ∧
      bytesAt (s.bayBody b) 7 19 =
        [0xFF, 0xFF, 0xFF] ++ List.replicate 8 0 ++ [0xFF, 0xFF] ++ List.replicate 3 0 ++ [0xFF, 0xFF, 0xFF] := by
  refine ⟨?_, ?_⟩
  · simp [State.bayBody, bytesAt_whole, bytesAt_past]
  · simp [State.bayBody, h, bytesAt_past, wideOrAbsent_none, byteOrAbsent_none, wordOrAbsent_none]

end

end Sys2Proof.Machine

/-! The bodies of METER_GET and TABLE_GET (R74, R96, R182). -/

namespace Sys2Proof.Machine

/-! ### METER_GET -/

section

variable {s : State} {b : Bay}

/-- The flags byte of a METER_GET body (R182). -/
def State.meterFlags (s : State) (b : Bay) : Byte :=
  bitsByte false false false false false
    (((s.bay b).phase.binding?.map (·.acct.ceiling)).getD ((Config.absentBits s.now 4).getLsbD 0))
    (s.bay b).phase.reason?.isSome (s.bay b).phase.binding?.isSome

/-- The figures of METER_GET page 0. -/
def State.meterFirst (s : State) (b : Bay) : List Byte :=
  let bd := (s.bay b).phase.binding?
  let draw := (s.bay b).phase.draw?
  byteOrAbsent (bd.map (·.commit.state.code)) ++ (s.bayCfg b).layout ++
    wideOrAbsent 3 (bd.map (·.acct.committed)) ++ wideOrAbsent 3 (bd.map (·.acct.inflight)) ++
    wideOrAbsent 3 (bd.map (·.remaining)) ++ wideOrAbsent 3 (bd.map (·.overdraw)) ++
    wordOrAbsent (draw.map (·.remainder)) ++ wideOrAbsent 12 (draw.map (·.swath)) ++
    wideOrAbsent 12 (draw.map (·.lastSwath))

/-- The figures of METER_GET page 1. -/
def State.meterSecond (s : State) (b : Bay) : List Byte :=
  let bd := (s.bay b).phase.binding?
  wideOrAbsent 3 (bd.map (·.acct.charged)) ++ wideOrAbsent 3 (bd.map (·.acct.pending)) ++
    wideOrAbsent 3 (bd.map (·.acct.carried)) ++ wideOrAbsent 5 (bd.map (·.acct.fine)) ++
    wideOrAbsent 12 ((s.bay b).phase.draw?.map (·.drawn)) ++ wideOrAbsent 12 (bd.map (·.acct.credited))

theorem meterBody_eq (s : State) (b : Bay) (page : Nat) :
    s.meterBody b page =
      toBytes 1 b.val ++ toBytes 1 (s.bay b).phase.code ++ toBytes 1 page ++ [s.meterFlags b] ++
        if page = 0 then s.meterFirst b else s.meterSecond b := by
  unfold State.meterBody State.meterFlags State.meterFirst State.meterSecond BaySettings.layout
  simp only [Option.map_map, List.append_assoc]
  rfl

theorem meterFirst_length (s : State) (b : Bay) : (s.meterFirst b).length = 52 := by
  simp [State.meterFirst, BaySettings.layout]

theorem meterSecond_length (s : State) (b : Bay) : (s.meterSecond b).length = 38 := by
  simp [State.meterSecond]

theorem meterBody_length (s : State) (b : Bay) :
    (s.meterBody b 0).length = 56 ∧ (s.meterBody b 1).length = 42 := by
  constructor <;> simp [meterBody_eq, meterFirst_length, meterSecond_length]

theorem meterBody_front (s : State) (b : Bay) (page : Nat) :
    (s.meterBody b page).take 3 = toBytes 1 b.val ++ toBytes 1 (s.bay b).phase.code ++ toBytes 1 page := by
  rw [meterBody_eq]
  simp [List.take_append, List.take_of_length_le]

theorem meterBody_behind (s : State) (b : Bay) (page : Nat) :
    (s.meterBody b page).drop 3 = s.meterFlags b :: if page = 0 then s.meterFirst b else s.meterSecond b := by
  rw [meterBody_eq]
  simp [List.drop_append, List.drop_eq_nil_of_le]

theorem meterBody_figures (s : State) (b : Bay) (page : Nat) :
    (s.meterBody b page).drop 4 = if page = 0 then s.meterFirst b else s.meterSecond b := by
  rw [← List.drop_drop (i := 1) (j := 3), meterBody_behind]
  rfl

theorem meterBody_flags (s : State) (b : Bay) (page : Nat) : (s.meterBody b page).getD 3 0 = s.meterFlags b := by
  have hdrop : (s.meterBody b page).getD 3 0 = ((s.meterBody b page).drop 3).headD 0 := by
    rw [getD_eq_bytesAt]
    unfold bytesAt
    cases (s.meterBody b page).drop 3 <;> rfl
  rw [hdrop, meterBody_behind]
  rfl

theorem draw_of_bound {p : Phase} {bd : Binding} (h : p.binding? = some bd) : p.draw? = some bd.draw := by
  cases p with
  | active x =>
    obtain rfl : x = bd := by simpa [Phase.binding?] using h
    rfl
  | released x =>
    obtain rfl : x = bd := by simpa [Phase.binding?] using h
    rfl
  | off => simp [Phase.binding?] at h
  | vacant => simp [Phase.binding?] at h
  | seated => simp [Phase.binding?] at h
  | identifying => simp [Phase.binding?] at h
  | rejected reason d => simp [Phase.binding?] at h

/-- The figures of a bound bay, on both pages. -/
theorem meter_bound {bd : Binding} (h : (s.bay b).phase.binding? = some bd) :
    s.meterFlags b = (if bd.acct.ceiling then 5 else 1) ∧
      s.meterFirst b =
        toBytes 1 bd.commit.state.code ++ (s.bayCfg b).layout ++ toBytes 3 bd.acct.committed ++
          toBytes 3 bd.acct.inflight ++ toBytes 3 bd.remaining ++ toBytes 3 bd.overdraw ++
          toBytes 2 bd.draw.remainder ++ toBytes 12 bd.draw.swath ++ toBytes 12 bd.draw.lastSwath ∧
      s.meterSecond b =
        toBytes 3 bd.acct.charged ++ toBytes 3 bd.acct.pending ++ toBytes 3 bd.acct.carried ++ toBytes 5 bd.acct.fine ++
          toBytes 12 bd.draw.drawn ++ toBytes 12 bd.acct.credited := by
  refine ⟨?_, ?_, ?_⟩
  · unfold State.meterFlags
    rw [h, reason_of_bound h]
    show bitsByte false false false false false bd.acct.ceiling false true = _
    cases bd.acct.ceiling <;> decide
  · unfold State.meterFirst
    rw [h, draw_of_bound h]
    rfl
  · unfold State.meterSecond
    rw [h, draw_of_bound h]
    rfl

/-- The figures of a bay that holds no binding figures. -/
theorem meter_unbound (h : (s.bay b).phase.binding? = none) :
    s.meterFlags b &&& 0xFB = (if (s.bay b).phase.reason?.isSome then 2 else 0) ∧
      s.meterFirst b =
        [0xFF] ++ (s.bayCfg b).layout ++ List.replicate 12 0 ++ wordOrAbsent ((s.bay b).phase.draw?.map (·.remainder)) ++
          wideOrAbsent 12 ((s.bay b).phase.draw?.map (·.swath)) ++
          wideOrAbsent 12 ((s.bay b).phase.draw?.map (·.lastSwath)) ∧
      s.meterSecond b =
        List.replicate 14 0 ++ wideOrAbsent 12 ((s.bay b).phase.draw?.map (·.drawn)) ++ List.replicate 12 0 := by
  refine ⟨?_, ?_, ?_⟩
  · have hbits : ∀ x y : Bool, bitsByte false false false false false x y false &&& 0xFB = if y then 2 else 0 := by decide
    unfold State.meterFlags
    rw [h]
    exact hbits _ _
  · unfold State.meterFirst
    rw [h]
    simp only [Option.map_none, wideOrAbsent_none, byteOrAbsent_none]
    simp
  · unfold State.meterSecond
    rw [h]
    simp only [Option.map_none, wideOrAbsent_none]
    simp

theorem meterLayout (s : State) (b : Bay) : MeterLayout s b := by
  have hbehind := meterBody_behind s b
  have hfigures := meterBody_figures s b
  have hflags := meterBody_flags s b
  refine ⟨fun page _ => meterBody_front s b page, fun bd h => ?_, fun reason d h => ?_, fun h hno => ?_⟩
  · obtain ⟨hflag, hfirst, hsecond⟩ := meter_bound h
    rw [hbehind, hbehind, hflag, if_pos rfl, if_neg Nat.one_ne_zero, hfirst, hsecond]
    exact ⟨by simp [Binding.remaining, Binding.overdraw, Binding.used], by simp⟩
  · obtain ⟨hflag, hfirst, hsecond⟩ := meter_unbound (s := s) (b := b) (by rw [h]; rfl)
    rw [h] at hflag hfirst hsecond
    refine ⟨fun page _ => (congrArg (· &&& 0xFB) (hflags page)).trans hflag, ?_, ?_⟩
    · rw [hfigures, if_pos rfl, hfirst]
      rfl
    · rw [hfigures, if_neg Nat.one_ne_zero, hsecond]
      rfl
  · obtain ⟨hflag, hfirst, hsecond⟩ := meter_unbound h
    have hnone : (s.bay b).phase.reason? = none ∧ (s.bay b).phase.draw? = none := by
      cases hp : (s.bay b).phase with
      | rejected reason d => exact absurd hp (hno reason d)
      | active bd => simp [hp, Phase.binding?] at h
      | released bd => simp [hp, Phase.binding?] at h
      | off => exact ⟨rfl, rfl⟩
      | vacant => exact ⟨rfl, rfl⟩
      | seated => exact ⟨rfl, rfl⟩
      | identifying => exact ⟨rfl, rfl⟩
    rw [hnone.1] at hflag
    rw [hnone.2] at hfirst hsecond
    refine ⟨fun page _ => (congrArg (· &&& 0xFB) (hflags page)).trans hflag, ?_, ?_⟩
    · rw [hfigures, if_pos rfl, hfirst]
      simp only [Option.map_none, wideOrAbsent_none, wordOrAbsent_none]
      simp
    · rw [hfigures, if_neg Nat.one_ne_zero, hsecond]
      simp only [Option.map_none, wideOrAbsent_none]
      simp

/-- The figures of a bound bay that the statements name by their offsets. -/
theorem meterBody_bound {bd : Binding} (h : (s.bay b).phase.binding? = some bd) :
    bytesAt (s.meterBody b 0) 18 3 = toBytes 3 bd.acct.committed ∧
      bytesAt (s.meterBody b 0) 24 3 = toBytes 3 bd.remaining ∧
      bytesAt (s.meterBody b 1) 4 3 = toBytes 3 bd.acct.charged ∧
      bytesAt (s.meterBody b 1) 7 3 = toBytes 3 bd.acct.pending ∧
      bytesAt (s.meterBody b 1) 13 5 = toBytes 5 bd.acct.fine ∧
      bytesAt (s.meterBody b 1) 30 12 = toBytes 12 bd.acct.credited := by
  obtain ⟨-, hfirst, hsecond⟩ := meter_bound h
  have hwidth : (s.bayCfg b).layout.length = 13 := by simp [BaySettings.layout]
  refine ⟨?_, ?_, ?_, ?_, ?_, ?_⟩ <;>
    simp [meterBody_eq, hfirst, hsecond, hwidth, bytesAt_whole, bytesAt_past]

end

/-! ### TABLE_GET -/

theorem entryFlags_eq (a b c d f : Bool) :
    [bitsByte false false a b c d f true] =
      toBytes 1 (1 + (if f then 2 else 0) + (if d then 4 else 0) + (if c then 8 else 0) + (if b then 16 else 0) +
        if a then 32 else 0) := by
  decide +revert

/-- An entry's part of the body is its layout. -/
theorem entryBody_eq (e : Entry) : e.body = e.layout := by
  unfold Entry.body Entry.layout
  rw [entryFlags_eq]
  generalize e.cloneSeen = clone
  cases e.unsure <;> cases e.lastSensed <;> cases e.refilled <;> cases e.bay <;> rfl

theorem entryBody_length (e : Entry) : e.body.length = 30 := by
  unfold Entry.body
  cases e.unsure <;> simp

theorem tableBody_some {s : State} {position : Nat} {e : Entry} (h : s.table[position]? = some e) :
    s.tableBody position = toBytes 1 position ++ toBytes 1 s.table.length ++ e.body := by
  unfold State.tableBody
  rw [h]

theorem tableBody_none {s : State} {position : Nat} (h : s.table[position]? = none) :
    s.tableBody position = toBytes 1 position ++ toBytes 1 s.table.length ++ [0] := by
  unfold State.tableBody
  rw [h]

end Sys2Proof.Machine

/-! The body of STATUS_GET (R182), and the queries: each replies and changes nothing else (R176). -/

namespace Sys2Proof.Machine

/-! ### STATUS_GET -/

section

variable {s : State}

theorem laneBody_length (s : State) (l : Lane) : (s.laneBody l).length = 6 := by simp [State.laneBody]

theorem laneBodies_length (s : State) : (allLanes.flatMap s.laneBody).length = 18 :=
  flatMap_width (laneBody_length s) allLanes

theorem statusBody_length (s : State) : s.statusBody.length = 51 := by
  have hlanes := laneBodies_length s
  unfold State.statusBody
  generalize allLanes.flatMap s.laneBody = lanes at hlanes ⊢
  simp [hlanes, allLevels, allKinds]

/-- The byte of the slots that hold a master key. -/
def State.keyByte (s : State) : List Byte :=
  toBytes 1 ((List.range 8).foldl (fun acc i => acc + if (s.masterKeys[i]?.join).isSome then 2 ^ i else 0) 0)

/-- The parts of a STATUS_GET body by their offsets. -/
theorem statusBody_parts (s : State) :
    bytesAt s.statusBody 0 2 = toBytes 1 s.device.code ++ toBytes 1 s.save.code ∧
      bytesAt s.statusBody 2 1 =
        toBytes 1 ((if s.writer.dirty.table then 4 else 0) + (if s.writer.dirty.policy then 2 else 0) +
          (if s.writer.dirty.settings then 1 else 0) + 16 * writerCode s.writer.writing) ∧
      bytesAt s.statusBody 3 1 = s.keyByte ∧ bytesAt s.statusBody 4 1 = [s.policy.allowed] ∧
      bytesAt s.statusBody 5 1 = [s.policy.byte] ∧ bytesAt s.statusBody 6 18 = allLanes.flatMap s.laneBody ∧
      bytesAt s.statusBody 24 1 = [s.converterByte] ∧ bytesAt s.statusBody 25 2 = toBytes 2 s.settings.holdRaw ∧
      bytesAt s.statusBody 27 1 = toBytes 1 (levelBits s.inService + 16 * levelBits s.offerable) ∧
      bytesAt s.statusBody 28 4 = (allLevels.flatMap fun lv => toBytes 1 (s.latchedPairs lv).length) ∧
      bytesAt s.statusBody 32 13 = (allKinds.flatMap fun k => toBytes 1 s.settings.routing[k].val) ∧
      bytesAt s.statusBody 45 2 = toBytes 1 s.settings.levelMask.toNat ++ toBytes 1 s.settings.wakeMask.toNat ∧
      bytesAt s.statusBody 47 1 = [bitsByte false false false false false s.wake s.attention s.dozing] ∧
      bytesAt s.statusBody 48 3 =
        toBytes 1 s.requests.length ++ toBytes 1 s.replies.length ++ toBytes 1 s.reservations := by
  have hlanes := laneBodies_length s
  have hlevels : (allLevels.flatMap fun lv => toBytes 1 (s.latchedPairs lv).length).length = 4 :=
    flatMap_width (fun _ => toBytes_length 1 _) allLevels
  have hkinds : (allKinds.flatMap fun k => toBytes 1 s.settings.routing[k].val).length = 13 :=
    flatMap_width (fun _ => toBytes_length 1 _) allKinds
  unfold State.statusBody State.keyByte
  generalize allLanes.flatMap s.laneBody = lanes at hlanes ⊢
  generalize (allLevels.flatMap fun lv => toBytes 1 (s.latchedPairs lv).length) = levels at hlevels ⊢
  generalize (allKinds.flatMap fun k => toBytes 1 s.settings.routing[k].val) = kinds at hkinds ⊢
  refine ⟨?_, ?_, ?_, ?_, ?_, ?_, ?_, ?_, ?_, ?_, ?_, ?_, ?_, ?_⟩ <;>
    simp [hlanes, hlevels, hkinds, bytesAt_whole, bytesAt_past]

/-! #### The fields of STATUS_GET -/

theorem headD_toBytes_one (n : Nat) : (toBytes 1 n).headD 0 = BitVec.ofNat 8 n := by rw [toBytes_one]; rfl

theorem keyByte_bit (s : State) (k : KeySlot) :
    (s.keyByte.headD 0).getLsbD k.val = s.masterKeys[k].isSome := by
  have hbits : ∀ (f : Fin 8 → Bool) (k : Fin 8),
      (BitVec.ofNat 8 ((List.range 8).foldl (fun acc i => acc + if (if h : i < 8 then f ⟨i, h⟩ else false) then 2 ^ i
        else 0) 0)).getLsbD k.val = f k := by
    intro f k
    have hbit : ∀ (x : Bool) (k : Nat), (if x then 2 ^ k else 0) = 2 ^ k * x.toNat := fun x k => by cases x <;> simp
    have hsum : (List.range 8).foldl (fun acc i => acc + if (if h : i < 8 then f ⟨i, h⟩ else false) then 2 ^ i
        else 0) 0 = Nat.ofBits f := by
      simp only [List.range_succ, List.range_zero, List.nil_append, List.foldl_append, List.foldl_cons, List.foldl_nil,
        hbit, Nat.ofBits_succ, Nat.ofBits_zero, Function.comp_apply, Fin.succ_zero_eq_one, Fin.reduceSucc]
      norm_num
      simp only [Fin.reduceFinMk]
      ring
    rw [hsum, BitVec.getLsbD_ofNat, Nat.testBit_ofBits_lt _ _ k.isLt]
    simp [k.isLt]
  rw [← hbits (fun i => s.masterKeys[i].isSome) k]
  unfold State.keyByte
  rw [headD_toBytes_one]
  congr 2

/-- The bits of two conditions of the four levels in one byte. -/
theorem levelBits_bit (f g : Level → Bool) (lv : Level) :
    (BitVec.ofNat 8 (levelBits f + 16 * levelBits g)).getLsbD lv.val = f lv ∧
      (BitVec.ofNat 8 (levelBits f + 16 * levelBits g)).getLsbD (4 + lv.val) = g lv := by
  have hbits : ∀ (a b c d a' b' c' d' : Bool) (lv : Fin 4),
      let n := (if a then 1 else 0) + (if b then 2 else 0) + (if c then 4 else 0) + (if d then 8 else 0) +
        16 * ((if a' then 1 else 0) + (if b' then 2 else 0) + (if c' then 4 else 0) + if d' then 8 else 0)
      (BitVec.ofNat 8 n).getLsbD lv.val = ![a, b, c, d] lv ∧
        (BitVec.ofNat 8 n).getLsbD (4 + lv.val) = ![a', b', c', d'] lv := by decide
  have hsum : ∀ f : Level → Bool, levelBits f =
      (if f 0 then 1 else 0) + (if f 1 then 2 else 0) + (if f 2 then 4 else 0) + if f 3 then 8 else 0 := by
    intro f
    simp [levelBits, allLevels]
  have hall := hbits (f 0) (f 1) (f 2) (f 3) (g 0) (g 1) (g 2) (g 3) lv
  rw [hsum f, hsum g]
  fin_cases lv <;> exact hall

theorem policyByte_eq (p : Policy) :
    [p.byte] = toBytes 1 ((if p.isSealed then 1 else 0) + 2 * p.rejectMode.code + 4 * p.refillMode.code +
      16 * p.outMode.code) :=
  (toBytes_one _).symm

/-- The six bytes of a lane. -/
theorem laneBody_bytes (s : State) (l : Lane) {a n : Nat} (h : a + n ≤ 6) :
    bytesAt s.statusBody (6 + 6 * l.val + a) n = bytesAt (s.laneBody l) a n := by
  obtain ⟨-, -, -, -, -, hlanes, -⟩ := statusBody_parts s
  have hlane : bytesAt s.statusBody (6 + 6 * l.val) 6 = s.laneBody l := by
    rw [← bytesAt_bytesAt (xs := s.statusBody) (a := 6) (m := 18) (by omega), hlanes,
      bytesAt_flatMap (laneBody_length s) allLanes l.val l (by fin_cases l <;> rfl)]
  rw [← hlane, bytesAt_bytesAt h]

theorem laneBody_tail (s : State) (l : Lane) :
    bytesAt (s.laneBody l) 3 1 = toBytes 1 (s.lane l).lastServed.val ∧
      bytesAt (s.laneBody l) 4 2 = wordOrAbsent (s.lane l).lastSupply := by
  constructor <;> simp [State.laneBody, bytesAt_whole, bytesAt_past]

theorem laneBody_busy {l : Lane} {x : Running} (h : (s.lane l).running = some x) :
    bytesAt (s.laneBody l) 0 3 =
      toBytes 1 (1 + 2 * x.op.code + 8 * x.step.code + (if x.abandoned then 32 else 0) +
        if (s.lane l).writeHold then 64 else 0) ++ toBytes 1 (bayAt l x.position).val ++ toBytes 1 x.attempt := by
  simp [State.laneBody, h, bytesAt_whole, byteOrAbsent_some]

/-- An IDLE lane: its write hold, and no bay and no attempt. -/
theorem laneBody_idle {l : Lane} (h : (s.lane l).running = none) :
    (bytesAt (s.laneBody l) 0 1).headD 0 &&& 0xC1 = (if (s.lane l).writeHold then 0x40 else 0) ∧
      bytesAt (s.laneBody l) 1 2 = [0xFF, 0xFF] := by
  constructor
  · have hbits : ∀ (x : BitVec 5) (hold : Bool),
        BitVec.ofNat 8 (2 * x.toNat + if hold then 64 else 0) &&& 0xC1 = if hold then 0x40 else 0 := by decide
    have hbyte : bytesAt (s.laneBody l) 0 1 =
        toBytes 1 (2 * (Config.absentBits s.now l.val).toNat + if (s.lane l).writeHold then 64 else 0) := by
      simp [State.laneBody, h, bytesAt_whole]
    rw [hbyte, headD_toBytes_one]
    exact hbits _ _
  · simp [State.laneBody, h, bytesAt_past, byteOrAbsent_none]

/-- The part of STATUS_GET that a lane fills. -/
theorem statusLane (s : State) (l : Lane) :
    let at' := 6 + 6 * l.val
    bytesAt s.statusBody (at' + 3) 1 = toBytes 1 (s.lane l).lastServed.val ∧
    bytesAt s.statusBody (at' + 4) 2 = wordOrAbsent (s.lane l).lastSupply ∧
    (∀ x, (s.lane l).running = some x →
      bytesAt s.statusBody at' 3 =
        toBytes 1 (1 + 2 * x.op.code + 8 * x.step.code + (if x.abandoned then 32 else 0) +
          if (s.lane l).writeHold then 64 else 0) ++ toBytes 1 (bayAt l x.position).val ++ toBytes 1 x.attempt) ∧
    ((s.lane l).running = none →
      s.statusBody.getD at' 0 &&& 0xC1 = (if (s.lane l).writeHold then 0x40 else 0) ∧
      bytesAt s.statusBody (at' + 1) 2 = [0xFF, 0xFF]) := by
  intro at'
  have hstart : ∀ n ≤ 6, bytesAt s.statusBody at' n = bytesAt (s.laneBody l) 0 n := fun n hn =>
    laneBody_bytes s l (a := 0) (by omega)
  obtain ⟨hserved, hsupply⟩ := laneBody_tail s l
  refine ⟨(laneBody_bytes s l (by omega)).trans hserved, (laneBody_bytes s l (by omega)).trans hsupply,
    fun x hx => (hstart 3 (by omega)).trans (laneBody_busy hx), fun hidle => ?_⟩
  obtain ⟨hhold, habsent⟩ := laneBody_idle hidle
  refine ⟨?_, (laneBody_bytes s l (by omega)).trans habsent⟩
  rw [getD_eq_bytesAt, hstart 1 (by omega)]
  exact hhold

theorem converterByte_idle (h : s.converter = none) : s.converterByte &&& 0xF0 = 0 := by
  have hbits : ∀ x : BitVec 5, (x.setWidth 4).setWidth 8 &&& (0xF0 : Byte) = 0 := by decide
  unfold State.converterByte
  rw [h]
  exact hbits _

theorem converterByte_busy {c : Conversion} (h : s.converter = some c) :
    [s.converterByte] = toBytes 1 (128 + c.channel.val) := by
  unfold State.converterByte
  rw [h]
  exact (toBytes_one _).symm

theorem flagsByte_eq (a b c : Bool) :
    [bitsByte false false false false false a b c] =
      toBytes 1 ((if c then 1 else 0) + (if b then 2 else 0) + if a then 4 else 0) := by
  decide +revert

theorem statusLayout (s : State) : StatusLayout s := by
  obtain ⟨-, hwriter, hkeys, hallowed, hpolicy, -, hconverter, hhold, hlevel, hcounts, hkinds, hmasks, hflags, -⟩ :=
    statusBody_parts s
  refine ⟨?_, fun k => ?_, hallowed, hpolicy.trans (policyByte_eq _), fun l => ?_,
    fun c hc => hconverter.trans (converterByte_busy hc), fun hno => ?_, hhold, fun lv => ⟨?_, ?_, ?_⟩, fun k => ?_,
    hmasks, hflags.trans (flagsByte_eq _ _ _)⟩
  · rw [hwriter]
    rcases s.writer.writing with _ | (_ | _ | _) <;> rfl
  · rw [getD_eq_bytesAt, hkeys]
    exact keyByte_bit s k
  · obtain ⟨hserved, hsupply, hbusy, hidle⟩ := statusLane s l
    refine ⟨hserved, hsupply.trans ?_, hbusy, hidle⟩
    cases (s.lane l).lastSupply <;> rfl
  · rw [getD_eq_bytesAt, hconverter]
    exact converterByte_idle hno
  · rw [getD_eq_bytesAt, hlevel, headD_toBytes_one]
    exact (levelBits_bit s.inService s.offerable lv).1
  · rw [getD_eq_bytesAt, hlevel, headD_toBytes_one]
    exact (levelBits_bit s.inService s.offerable lv).2
  · rw [← bytesAt_bytesAt (xs := s.statusBody) (a := 28) (m := 4) (by omega), hcounts, ← Nat.one_mul lv.val,
      bytesAt_flatMap (fun _ => toBytes_length 1 _) allLevels lv.val lv (by fin_cases lv <;> rfl)]
  · rw [← bytesAt_bytesAt (xs := s.statusBody) (a := 32) (m := 13) (by omega), hkinds, ← Nat.one_mul k.val,
      bytesAt_flatMap (fun _ => toBytes_length 1 _) allKinds k.val k (by fin_cases k <;> rfl)]

end

/-! ### The queries -/

section

variable {s : State} {r : Request} {rest : List Request}

theorem exec_statusGet (h : Taking s .statusGet r rest) (hb : r.body = []) :
    exec .statusGet s = .next (s.answered rest (r.answer .ok (s.dequeued rest).statusBody)) := by
  show Host.Outcome.next (s.take _ _) = _
  rw [take_taking h (by rw [hb]; rfl)]
  rfl

theorem exec_bayGet {b : Bay} (h : Taking s .bayGet r rest) (hb : r.body = toBytes 1 b.val) :
    exec .bayGet s = .next (s.answered rest (r.answer .ok (s.bayBody b))) := by
  show Host.Outcome.next (s.take _ _) = _
  rw [take_taking h (by rw [hb, toBytes_length]; rfl), withBay_only hb]
  rfl

theorem exec_meterGet_page {b : Bay} {page : Nat} (hpage : page < 256) (h : Taking s .meterGet r rest)
    (hb : r.body = toBytes 1 b.val ++ toBytes 1 page) :
    exec .meterGet s = .next (s.answered rest
      (if page ≤ 1 then r.answer .ok (s.meterBody b page) else r.answer .badArg [])) := by
  have hasked : r.page = page := by
    unfold Request.page
    rw [if_neg (by simp [hb]), byteAt_second (tail := []) hpage (by rw [hb, List.append_nil])]
  show Host.Outcome.next (s.take _ _) = _
  rw [take_taking h (by simp [hb, ReqKind.lengthOk]), withBay_bay hb, hasked]
  split <;> rfl

theorem exec_meterGet_first {b : Bay} (h : Taking s .meterGet r rest) (hb : r.body = toBytes 1 b.val) :
    exec .meterGet s = .next (s.answered rest (r.answer .ok (s.meterBody b 0))) := by
  have hasked : r.page = 0 := if_pos (by rw [hb, toBytes_length])
  show Host.Outcome.next (s.take _ _) = _
  rw [take_taking h (by rw [hb, toBytes_length]; rfl), withBay_only hb, hasked]
  rfl

theorem exec_tableGet {position : Nat} (h256 : position < 256) (h : Taking s .tableGet r rest)
    (hb : r.body = toBytes 1 position) :
    exec .tableGet s = .next (s.answered rest
      (if position ≤ 31 then r.answer .ok (s.tableBody position) else r.answer .badArg [])) := by
  show Host.Outcome.next (s.take _ _) = _
  rw [take_taking h (by rw [hb, toBytes_length]; rfl), byteAt_only h256 hb]
  split <;> rfl

end

/-- Settles O12: each query is one lemma about its take, and each body is laid out by the lemmas on its slices. -/
theorem queriesReplyOnly : Obligations.QueriesReplyOnly := by
  refine ⟨fun s r rest => ⟨exec_statusGet, fun b => exec_bayGet, fun b => exec_meterGet_first,
    fun b page => exec_meterGet_page, fun position => exec_tableGet⟩, fun s b => ?_⟩
  obtain ⟨hmeter0, hmeter1⟩ := meterBody_length s b
  obtain ⟨hfront, -, -, -, -, -, -, -, -, -, -, -, -, hqueues⟩ := statusBody_parts s
  refine ⟨bayBody_length s b, hmeter0, hmeter1, statusBody_length s, bayBody_front s b, fun bd h => ?_, bayBody_line s b,
    bayBody_presence s b, fun bd h => ?_, fun h => ?_, meterLayout s b, fun position e h => ?_,
    fun position => tableBody_none, hfront, statusLayout s,
    (drop_eq_bytesAt (by rw [statusBody_length])).trans hqueues⟩
  · obtain ⟨hserial, hcapacity, hcommit, -⟩ := bayBody_bound h
    exact ⟨hserial, hcapacity, hcommit, meterBody_bound h⟩
  · obtain ⟨-, -, -, hproduct, hkey, hink⟩ := bayBody_bound h
    obtain ⟨hverdict, hset, hfirst⟩ := bayBody_evidence h
    refine ⟨?_, fun hnodup k => ?_, ?_, hproduct, hkey, hink⟩
    · rw [hverdict, reason_of_bound h]
      unfold Binding.isRefilled
      cases bd.evidence <;> simp [byteOrAbsent_none, toBytes_one]
    · rw [getD_eq_bytesAt, hset, headD_toBytes_one]
      exact evidenceBits_bit hnodup k
    · rw [hfirst]
      cases bd.evidence <;> rfl
  · obtain ⟨hreason, hrest⟩ := bayBody_unbound h
    refine ⟨?_, hrest⟩
    rw [hreason]
    cases (s.bay b).phase <;> rfl
  · exact ⟨by simp [tableBody_some h, entryBody_length], by rw [tableBody_some h]; rfl,
      by rw [tableBody_some h, entryBody_eq]⟩

end Sys2Proof.Machine

/-! The table and the bindings as one relation (R62): what an operation has to keep of both so that they still agree. -/

namespace Sys2Proof.Machine

/-! ### Serials and bays -/

/-- What the table says of an entry's place: its serial, and the bay it names. -/
def Entry.tag (e : Entry) : Serial × Option Bay := (e.serial, e.bay)

/-- The serial a bay's record is bound with. -/
def BayRec.serial? (r : BayRec) : Option Serial := r.phase.binding?.map (·.serial)

/-- The entries, by serial and bay, and the serials the bays are bound with agree (R62). -/
structure Agree (tags : List (Serial × Option Bay)) (held : Bay → Option Serial) : Prop where
  room : tags.length ≤ 32
  nodup : (tags.map Prod.fst).Nodup
  named : ∀ x b, (x, some b) ∈ tags → held b = some x
  bound : ∀ b x, held b = some x → (x, some b) ∈ tags

theorem serial?_none_iff {r : BayRec} : r.serial? = none ↔ r.phase.binding? = none := Option.map_eq_none_iff

/-- The tag list once no entry names a bay. -/
def unnameBay (b : Bay) (tags : List (Serial × Option Bay)) : List (Serial × Option Bay) :=
  tags.map fun p => if p.2 = some b then (p.1, none) else p

namespace Agree

variable {tags rest : List (Serial × Option Bay)} {held : Bay → Option Serial} {b : Bay} {x : Serial}

/-- A bay's entry ceases to name it as the bay ceases to be bound (R58, R59). -/
theorem unbind (h : Agree tags held) (b : Bay) : Agree (unnameBay b tags) (Function.update held b none) where
  room := by
    unfold unnameBay
    rw [List.length_map]
    exact h.room
  nodup := by
    have hfst : (unnameBay b tags).map Prod.fst = tags.map Prod.fst := by
      unfold unnameBay
      rw [List.map_map]
      exact List.map_congr_left fun p _ => by dsimp only [Function.comp]; split <;> rfl
    rw [hfst]
    exact h.nodup
  named y c hy := by
    obtain ⟨p, hp, heq⟩ := List.mem_map.mp hy
    by_cases hname : p.2 = some b
    · rw [if_pos hname] at heq
      exact absurd (congrArg Prod.snd heq) (by simp)
    · rw [if_neg hname] at heq
      obtain rfl := heq
      rw [Function.update_of_ne fun hc => hname (by rw [hc])]
      exact h.named y c hp
  bound c y hc := by
    by_cases hcb : c = b
    · rw [hcb, Function.update_self] at hc
      exact absurd hc (by simp)
    · rw [Function.update_of_ne hcb] at hc
      exact List.mem_map.mpr ⟨_, h.bound c y hc, if_neg fun hn => hcb (Option.some.inj hn)⟩

/-- A bay becomes bound with a serial no bay has: the serial's entry comes to the front and names the bay, and every entry
that named a bay stays (R63, R64, R65). -/
theorem bind (h : Agree tags held) (hb : held b = none) (hx : ∀ c, held c ≠ some x) (hsub : rest.Sublist tags)
    (hlen : rest.length < 32) (hnew : x ∉ rest.map Prod.fst) (hkept : ∀ p ∈ tags, p.1 ≠ x → p.2 ≠ none → p ∈ rest) :
    Agree ((x, some b) :: rest) (Function.update held b (some x)) where
  room := hlen
  nodup := List.nodup_cons.mpr ⟨hnew, h.nodup.sublist (hsub.map Prod.fst)⟩
  named y c hy := by
    obtain heq | hrest := List.mem_cons.mp hy
    · obtain ⟨rfl, hc⟩ := Prod.mk.inj heq
      rw [Option.some.inj hc, Function.update_self]
    · have hheld := h.named y c (hsub.subset hrest)
      rw [Function.update_of_ne fun hc => by rw [hc, hb] at hheld; exact absurd hheld (by simp)]
      exact hheld
  bound c y hc := by
    by_cases hcb : c = b
    · rw [hcb, Function.update_self] at hc
      rw [hcb, Option.some.inj hc]
      exact List.mem_cons_self
    · rw [Function.update_of_ne hcb] at hc
      refine List.mem_cons_of_mem _ (hkept _ (h.bound c y hc) (fun hy => hx c ?_) (by simp))
      rw [hc]
      exact congrArg some hy

/-- At most 12 entries name a bay: one for each. -/
theorem some_unnamed (h : Agree tags held) (hfull : 12 < tags.length) : ∃ p ∈ tags, p.2 = none := by
  by_contra hall
  have hnamed : ∀ p ∈ tags, p.2 ≠ none := fun p hp hn => hall ⟨p, hp, hn⟩
  have hbays : (tags.map Prod.snd).Nodup := by
    refine (List.nodup_map_iff_inj_on (List.Nodup.of_map _ h.nodup)).mpr ?_
    rintro ⟨x, c⟩ hp ⟨y, c'⟩ hq (rfl : c = c')
    obtain ⟨b, rfl⟩ := Option.ne_none_iff_exists'.mp (hnamed _ hp)
    have hxy := (h.named x b hp).symm.trans (h.named y b hq)
    rw [Option.some.inj hxy]
  have hsub : (tags.map Prod.snd).toFinset ⊆ Finset.univ.image (some : Bay → Option Bay) := fun c hc => by
    obtain ⟨p, hp, rfl⟩ := List.mem_map.mp (List.mem_toFinset.mp hc)
    obtain ⟨b, hb⟩ := Option.ne_none_iff_exists'.mp (hnamed p hp)
    exact Finset.mem_image.mpr ⟨b, Finset.mem_univ b, hb.symm⟩
  have hcard := (Finset.card_le_card hsub).trans Finset.card_image_le
  rw [List.toFinset_card_of_nodup hbays, List.length_map, Finset.card_univ, Fintype.card_fin] at hcard
  omega

end Agree

/-! ### The invariant -/

/-- The table, the bindings, the slots and the lanes agree (R62), but that the IDENTIFY of the lane `free` may be for a bay
that is bound by now. -/
structure Linked (free : Option Lane) (s : State) : Prop where
  agree : Agree (s.table.map Entry.tag) fun b => (s.bay b).serial?
  slots : ∀ b, (s.bay b).slot = some .identify → (s.bay b).serial? = none
  lanes : ∀ l r, free ≠ some l → (s.lane l).running = some r → r.op = .identify → r.abandoned = false →
    (s.bay (bayAt l r.position)).serial? = none
  reads : RecordReadsIdentify s
  quiet : QuietUnlessRunning s

theorem entriesAgree_iff (s : State) :
    Agree (s.table.map Entry.tag) (fun b => (s.bay b).serial?) ↔
      TableShaped s.table ∧ EntriesNameBindings s ∧ BindingsHaveEntries s := by
  have hfst : (s.table.map Entry.tag).map Prod.fst = s.table.map (·.serial) := by
    rw [List.map_map]
    rfl
  have hheld : ∀ b x, (s.bay b).serial? = some x ↔ ∃ bd, (s.bay b).phase.binding? = some bd ∧ bd.serial = x :=
    fun b x => Option.map_eq_some_iff
  have htag : ∀ x b, (x, some b) ∈ s.table.map Entry.tag ↔ ∃ e ∈ s.table, e.bay = some b ∧ e.serial = x := by
    intro x b
    rw [List.mem_map]
    refine exists_congr fun e => and_congr_right fun _ => ?_
    rw [Entry.tag, Prod.mk.injEq]
    exact and_comm
  constructor
  · rintro ⟨hroom, hnodup, hnamed, hbound⟩
    refine ⟨⟨by rwa [List.length_map] at hroom, hfst ▸ hnodup⟩, fun e he b hb => ?_, fun b bd hbd => ?_⟩
    · exact (hheld b _).mp (hnamed _ b ((htag _ b).mpr ⟨e, he, hb, rfl⟩))
    · exact (htag _ b).mp (hbound b _ ((hheld b _).mpr ⟨bd, hbd, rfl⟩))
  · rintro ⟨⟨hroom, hnodup⟩, hnamed, hbound⟩
    refine ⟨by rwa [List.length_map], hfst.symm ▸ hnodup, fun x b hx => ?_, fun b x hx => ?_⟩
    · obtain ⟨e, he, hb, rfl⟩ := (htag x b).mp hx
      exact (hheld b _).mpr (hnamed e he b hb)
    · obtain ⟨bd, hbd, rfl⟩ := (hheld b x).mp hx
      exact (htag _ b).mpr (hbound b bd hbd)

theorem tableConsistent_iff (s : State) : TableConsistent s ↔ Linked none s := by
  constructor
  · rintro ⟨hshape, hentries, hbindings, ⟨hslots, hlanes⟩, hreads, hquiet⟩
    exact ⟨(entriesAgree_iff s).mpr ⟨hshape, hentries, hbindings⟩, fun b hb => serial?_none_iff.mpr (hslots b hb),
      fun l r _ hr hop ha => serial?_none_iff.mpr (hlanes l r hr hop ha), hreads, hquiet⟩
  · rintro ⟨hagree, hslots, hlanes, hreads, hquiet⟩
    obtain ⟨hshape, hentries, hbindings⟩ := (entriesAgree_iff s).mp hagree
    exact ⟨hshape, hentries, hbindings, ⟨fun b hb => serial?_none_iff.mp (hslots b hb),
      fun l r hr hop ha => serial?_none_iff.mp (hlanes l r (by simp) hr hop ha)⟩, hreads, hquiet⟩

namespace Linked

variable {free : Option Lane} {s : State}

/-- A bay that is not OFF, or that has a request in its slot, is in a RUNNING device (R9, R175). -/
theorem running_of_phase (h : Linked free s) {b : Bay} (hp : (s.bay b).phase ≠ .off) : s.device = .running := by
  by_contra hd
  exact hp ((h.quiet.1 hd).1 b).1

theorem running_of_slot (h : Linked free s) {b : Bay} (hs : (s.bay b).slot ≠ none) : s.device = .running := by
  by_contra hd
  exact hs ((h.quiet.1 hd).1 b).2

theorem running_of_lane (h : Linked free s) {l : Lane} (hl : (s.lane l).running ≠ none) : s.device = .running := by
  by_contra hd
  exact hl ((h.quiet.1 hd).2 l)

/-- A lane's owner may act on the result as if its IDENTIFY were already over. -/
theorem weaken (h : Linked none s) (l : Lane) : Linked (some l) s :=
  ⟨h.agree, h.slots, fun m r _ => h.lanes m r (by simp), h.reads, h.quiet⟩

end Linked

/-! ### What an operation keeps -/

/-- A bay's new record is bound with the same serial, waits for an IDENTIFY only when not bound, and outside RUNNING stays
idle. -/
structure RecBonds (d : DeviceState) (r r' : BayRec) : Prop where
  serial : r'.serial? = r.serial?
  slot : (r.slot = some .identify → r.serial? = none) → r'.slot = some .identify → r'.serial? = none
  off : d ≠ .running → r.phase = .off ∧ r.slot = none → r'.phase = .off ∧ r'.slot = none

/-- A lane goes on with the operation it had, or with none. -/
def LaneBonds (x x' : LaneRec) : Prop :=
  ∀ r', x'.running = some r' → ∃ r, x.running = some r ∧ r'.position = r.position ∧ r'.op = r.op ∧
    (r'.abandoned = false → r.abandoned = false) ∧ (r'.step = .readRecord → r.step = .readRecord)

/-- From `s` to `t` no entry and no bay changed what `Linked` speaks of. -/
structure Bonds (s t : State) : Prop where
  device : t.device = s.device
  requests : t.requests = s.requests
  tags : t.table.map Entry.tag = s.table.map Entry.tag
  bay : ∀ b, RecBonds s.device (s.bay b) (t.bay b)
  lane : ∀ l, LaneBonds (s.lane l) (t.lane l)

namespace RecBonds

variable {d : DeviceState} {r r' r'' : BayRec}

theorem of_same (hp : r'.phase = r.phase) (hs : r'.slot = r.slot) : RecBonds d r r' := by
  have hserial : r'.serial? = r.serial? := by rw [BayRec.serial?, hp]; rfl
  exact ⟨hserial, fun h hi => hserial.trans (h (hs ▸ hi)), fun _ ⟨ho, hn⟩ => ⟨hp.trans ho, hs.trans hn⟩⟩

theorem of_schedule (h : SameButSchedule r r') : RecBonds d r r' := of_same h.phase h.slot

theorem trans (h : RecBonds d r r') (h' : RecBonds d r' r'') : RecBonds d r r'' :=
  ⟨h'.serial.trans h.serial, fun hs => h'.slot (h.slot hs), fun hd ho => h'.off hd (h.off hd ho)⟩

/-- A bay whose new phase is bound with the same serial, with no IDENTIFY put in its slot, in a RUNNING device or a bay that
was not OFF. -/
theorem of_phase (hserial : r'.serial? = r.serial?) (hs : r'.slot = some .identify → r.slot = some .identify)
    (ho : d ≠ .running → r.phase ≠ .off) : RecBonds d r r' :=
  ⟨hserial, fun h hi => hserial.trans (h (hs hi)), fun hd hoff => absurd hoff.1 (ho hd)⟩

/-- A binding that is rewritten under its serial. -/
theorem of_mapBinding {f : Binding → Binding} (hp : r'.phase = r.phase.mapBinding f) (hs : r'.slot = r.slot)
    (hf : ∀ bd, (f bd).serial = bd.serial) : RecBonds d r r' := by
  have hserial : r'.serial? = r.serial? := by
    unfold BayRec.serial?
    rw [hp, binding_mapBinding, Option.map_map]
    exact congrArg (fun g => r.phase.binding?.map g) (funext hf)
  exact ⟨hserial, fun h hi => hserial.trans (h (hs ▸ hi)),
    fun _ ⟨ho, hn⟩ => ⟨by rw [hp, ho]; rfl, hs.trans hn⟩⟩

end RecBonds

theorem LaneBonds.of_running {x x' : LaneRec} (h : x'.running = x.running) : LaneBonds x x' := fun r' hr =>
  ⟨r', h ▸ hr, rfl, rfl, id, id⟩

namespace Bonds

variable {s t u : State}

/-- An operation that leaves the device state, the requests, the bays and the lanes alone, and every entry its place. -/
theorem of_frame (hb : t.bays = s.bays) (hl : t.lanes = s.lanes) (hd : t.device = s.device)
    (hq : t.requests = s.requests) (ht : t.table.map Entry.tag = s.table.map Entry.tag) : Bonds s t where
  device := hd
  requests := hq
  tags := ht
  bay b := by
    have hbay : t.bay b = s.bay b := by rw [State.bay, hb]; rfl
    rw [hbay]
    exact .of_same rfl rfl
  lane l := LaneBonds.of_running (by rw [State.lane, hl]; rfl)

theorem refl (s : State) : Bonds s s := of_frame rfl rfl rfl rfl rfl

theorem trans (h : Bonds s t) (h' : Bonds t u) : Bonds s u where
  device := h'.device.trans h.device
  requests := h'.requests.trans h.requests
  tags := h'.tags.trans h.tags
  bay b := (h.bay b).trans (h.device ▸ h'.bay b)
  lane l r'' hr'' := by
    obtain ⟨r', hr', hpos', hop', hab', hstep'⟩ := h'.lane l r'' hr''
    obtain ⟨r, hr, hpos, hop, hab, hstep⟩ := h.lane l r' hr'
    exact ⟨r, hr, hpos'.trans hpos, hop'.trans hop, fun ha => hab (hab' ha), fun hs => hstep (hstep' hs)⟩

/-- An operation on the bays, and on parts that `Linked` does not speak of. -/
theorem of_bays (hl : t.lanes = s.lanes) (hd : t.device = s.device) (hq : t.requests = s.requests)
    (ht : t.table = s.table) (hb : ∀ b, RecBonds s.device (s.bay b) (t.bay b)) : Bonds s t where
  device := hd
  requests := hq
  tags := by rw [ht]
  bay := hb
  lane l := LaneBonds.of_running (by rw [State.lane, hl]; rfl)

/-- An operation folded over a list keeps what each of its steps keeps. -/
theorem foldl {α : Type} {f : State → α → State} (h : ∀ s a, Bonds s (f s a)) (l : List α) (s : State) :
    Bonds s (l.foldl f s) := by
  induction l generalizing s with
  | nil => exact refl s
  | cons a l ih => exact (h s a).trans (ih _)

theorem serial (h : Bonds s t) (b : Bay) : (t.bay b).serial? = (s.bay b).serial? := (h.bay b).serial

end Bonds

/-- What keeps every entry, bay and lane in its place keeps table and bindings in agreement. -/
theorem Linked.of_bonds {free : Option Lane} {s t : State} (h : Linked free s) (hb : Bonds s t) : Linked free t where
  agree := by
    rw [hb.tags, show (fun b => (t.bay b).serial?) = fun b => (s.bay b).serial? from funext hb.serial]
    exact h.agree
  slots b := (hb.bay b).slot (h.slots b)
  lanes l r' hl hr' hop ha := by
    obtain ⟨r, hr, hpos, hop', hab, -⟩ := hb.lane l r' hr'
    rw [hb.serial, hpos]
    exact h.lanes l r hl hr (hop' ▸ hop) (hab ha)
  reads l r' hr' hstep := by
    obtain ⟨r, hr, -, hop, -, hs⟩ := hb.lane l r' hr'
    rw [hop]
    exact h.reads l r hr (hs hstep)
  quiet := by
    refine ⟨fun hd => ?_, fun hd => hb.requests.trans (h.quiet.2 (hb.device ▸ hd))⟩
    rw [hb.device] at hd
    obtain ⟨hoff, hidle⟩ := h.quiet.1 hd
    refine ⟨fun b => (hb.bay b).off hd (hoff b), fun l => Option.eq_none_iff_forall_ne_some.mpr fun r' hr' => ?_⟩
    obtain ⟨r, hr, -⟩ := hb.lane l r' hr'
    exact absurd ((hidle l).symm.trans hr) (by simp)

end Sys2Proof.Machine

/-! Operations that leave every entry its bay, every bay its serial and every lane its operation: `Bonds` for each, in the
order of the definitions. -/

namespace Sys2Proof.Machine

variable (s : State)

/-! ### Plain updates -/

theorem modBay_bonds (b : Bay) {f : BayRec → BayRec} (h : RecBonds s.device (s.bay b) (f (s.bay b))) :
    Bonds s (s.modBay b f) := by
  refine .of_bays rfl rfl rfl rfl fun c => ?_
  by_cases hc : c = b
  · rw [hc, bay_modBay_same]
    exact h
  · rw [bay_modBay_other _ hc]
    exact .of_same rfl rfl

/-- A change of a bay's record that leaves its phase and its slot alone. -/
theorem modBay_bonds_same (b : Bay) {f : BayRec → BayRec} (hp : (f (s.bay b)).phase = (s.bay b).phase)
    (hs : (f (s.bay b)).slot = (s.bay b).slot) : Bonds s (s.modBay b f) :=
  modBay_bonds s b (.of_same hp hs)

theorem mapBays_bonds {f : Bay → BayRec → BayRec} (h : ∀ b, RecBonds s.device (s.bay b) (f b (s.bay b))) :
    Bonds s (s.mapBays f) :=
  .of_bays rfl rfl rfl rfl fun b => by rw [bay_mapBays]; exact h b

/-- A slot that is emptied. -/
theorem clearSlot_bonds (b : Bay) : Bonds s (s.modBay b fun r => { r with slot := none }) :=
  modBay_bonds s b ⟨rfl, fun _ h => absurd h (by simp), fun _ h => ⟨h.1, rfl⟩⟩

/-- A request of a bound bay is placed in its slot. -/
theorem setSlot_bonds (b : Bay) {op : OpKind} (hop : op ≠ .identify) (hp : (s.bay b).phase ≠ .off) :
    Bonds s (s.modBay b fun r => { r with slot := some op }) :=
  modBay_bonds s b ⟨rfl, fun _ h => absurd (Option.some.inj h) hop, fun _ h => absurd h.1 hp⟩

theorem modBinding_bonds (b : Bay) {f : Binding → Binding} (hf : ∀ bd, (f bd).serial = bd.serial) :
    Bonds s (s.modBinding b f) :=
  modBay_bonds s b (.of_mapBinding rfl rfl hf)

theorem modLane_bonds (l : Lane) {f : LaneRec → LaneRec} (h : LaneBonds (s.lane l) (f (s.lane l))) :
    Bonds s (s.modLane l f) where
  device := rfl
  requests := rfl
  tags := rfl
  bay b := .of_same rfl rfl
  lane m := by
    by_cases hm : m = l
    · rw [hm, lane_modLane_same]
      exact h
    · rw [lane_modLane_other _ hm]
      exact .of_running rfl

theorem mapLanes_bonds {f : Lane → LaneRec → LaneRec} (h : ∀ l, LaneBonds (s.lane l) (f l (s.lane l))) :
    Bonds s (s.mapLanes f) where
  device := rfl
  requests := rfl
  tags := rfl
  bay b := .of_same rfl rfl
  lane l := by rw [lane_mapLanes]; exact h l

theorem modBayCfg_bonds (b : Bay) (f : BaySettings → BaySettings) : Bonds s (s.modBayCfg b f) :=
  .of_frame rfl rfl rfl rfl rfl

theorem reply_bonds (r : Request) (res : Result) (body : List Byte) : Bonds s (s.reply r res body) :=
  .of_frame rfl rfl rfl rfl rfl

theorem placeLong_bonds (r : Bool) (ticket : Byte) (k : ReqKind) (res : Result) (body : List Byte) :
    Bonds s (s.placeLong r ticket k res body) := by
  rw [placeLong_frame]
  exact .of_frame rfl rfl rfl rfl rfl

theorem latch_bonds (site : Site) (k : Kind) : Bonds s (s.latch site k) := by
  rw [latch_frame]
  exact .of_frame rfl rfl rfl rfl rfl

theorem markDirty_bonds (sec : StoreSection) : Bonds s (s.markDirty sec) := .of_frame rfl rfl rfl rfl rfl

theorem trigger_dirty_bonds (h : s.writer.dirty.isEmpty = false) : Bonds s s.trigger := by
  rw [trigger_frame h]
  exact .of_frame rfl rfl rfl rfl rfl

theorem settingsChanged_bonds : Bonds s s.settingsChanged := by
  rw [settingsChanged_frame]
  exact .of_frame rfl rfl rfl rfl rfl

/-! ### The table -/

variable {s} in
theorem map_tag {f : Entry → Entry} (hf : ∀ e, (f e).tag = e.tag) :
    (s.table.map f).map Entry.tag = s.table.map Entry.tag := by
  rw [List.map_map]
  exact congrArg (fun g => s.table.map g) (funext hf)

variable {s} in
theorem withEntry_tag (b : Bay) {f : Entry → Entry} (hf : ∀ e, (f e).tag = e.tag) :
    (s.withEntry b f).map Entry.tag = s.table.map Entry.tag :=
  map_tag fun e => by split <;> [exact hf e; rfl]

theorem shadow_tag (bd : Binding) (e : Entry) : (bd.shadow e).tag = e.tag := rfl

theorem shadowTable_tag (b : Bay) : (s.shadowTable b).map Entry.tag = s.table.map Entry.tag := by
  unfold State.shadowTable
  split
  · rfl
  · exact withEntry_tag b (shadow_tag _)

theorem setTable_bonds {t : List Entry} (h : t.map Entry.tag = s.table.map Entry.tag) : Bonds s (s.setTable t) := by
  have htable := setTable_table s t
  rw [setTable_frame] at htable ⊢
  exact .of_frame rfl rfl rfl rfl ((congrArg (List.map Entry.tag) htable).trans h)

theorem flushTable_frame_of (t : List Entry) :
    s.flushTable t = { s with table := t, writer := (s.flushTable t).writer } := by
  unfold State.flushTable
  split
  · next h => rw [h]
  · rw [trigger_frame (markDirty_dirty _ _)]
    rfl

theorem flushTable_bonds {t : List Entry} (h : t.map Entry.tag = s.table.map Entry.tag) : Bonds s (s.flushTable t) := by
  rw [flushTable_frame_of]
  exact .of_frame rfl rfl rfl rfl h

theorem shadowAll_bonds : Bonds s s.shadowAll :=
  .foldl (fun s b => setTable_bonds s (shadowTable_tag s b)) allBays s

theorem shadowIfSaving_bonds (b : Bay) : Bonds s (s.shadowIfSaving b) := by
  unfold State.shadowIfSaving
  split
  · exact .refl s
  · exact flushTable_bonds s (shadowTable_tag s b)

/-! ### Levels and permits -/

theorem evalLine_bonds (b : Bay) : Bonds s (s.evalLine b) := modBay_bonds_same s b rfl rfl

theorem evalLines_bonds : Bonds s s.evalLines := mapBays_bonds s fun _ => .of_same rfl rfl

/-- A bay that is not bound takes another state without a binding, in a RUNNING device. -/
theorem setPhase_bonds (b : Bay) {p : Phase} (hd : s.device = .running) (hb : (s.bay b).serial? = none)
    (hp : p.binding? = none) : Bonds s (s.setPhase b p) := by
  refine (modBay_bonds s b (f := fun r => { r with phase := p }) (.of_phase ?_ id fun h => absurd hd h)).trans
    (evalLine_bonds _ b)
  rw [hb]
  exact serial?_none_iff.mpr hp

theorem latchInk_bonds (b : Bay) (x y : InkState) : Bonds s (s.latchInk b x y) := by
  rw [latchInk_frame]
  exact .of_frame rfl rfl rfl rfl rfl

theorem computeInk_bonds (b : Bay) : Bonds s (s.computeInk b) := by
  unfold State.computeInk
  split
  · exact .refl s
  · dsimp only
    exact (modBinding_bonds s b fun _ => by rfl).trans ((latchInk_bonds _ b _ _).trans (evalLine_bonds _ b))

/-! ### Surveys -/

/-- An operation that moves survey schedules alone, and no other part that `Linked` speaks of. -/
theorem scheduled_bonds {s t : State} (h : AllScheduled s t) (hc : CoreKept s t) (hl : t.lanes = s.lanes)
    (ht : t.table = s.table) : Bonds s t :=
  .of_bays hl hc.device hc.requests ht fun b => .of_schedule (h b)

theorem startPasses_bonds (n : Nat) : Bonds s (State.startPasses n s) :=
  scheduled_bonds (startPasses_scheduled s n) (startPasses_core s n) (by rw [startPasses_frame])
    (by rw [startPasses_frame])

theorem passCheck_bonds : Bonds s s.passCheck :=
  scheduled_bonds (passCheck_scheduled s) (passCheck_core s) (by rw [passCheck_frame]) (by rw [passCheck_frame])

theorem setRun_bonds (x : Option SurveyRun) : Bonds s { s with run := x } := .of_frame rfl rfl rfl rfl rfl

theorem discardConversion_bonds (b : Bay) : Bonds s (s.discardConversion b) := by
  rw [discardConversion_frame]
  exact .of_frame rfl rfl rfl rfl rfl

theorem leftActive_bonds (b : Bay) (removed : Bool) : Bonds s (s.leftActive b removed) :=
  scheduled_bonds (leftActive_scheduled s b removed) (leftActive_core s b removed) (by rw [leftActive_frame])
    (by rw [leftActive_frame])

theorem settleConverter_bonds : Bonds s s.settleConverter where
  device := (settleConverter_core s).device
  requests := (settleConverter_core s).requests
  tags := by rw [settleConverter_frame]
  bay b := .of_schedule (settleConverter_scheduled s b)
  lane l := .of_running (by rw [settleConverter_lane])

/-! ### Commits (R97 to R113) -/

theorem changeCommit_bonds (b : Bay) {f : Binding → Binding} (hf : ∀ bd, (f bd).serial = bd.serial) :
    Bonds s (s.changeCommit b f) :=
  (modBinding_bonds s b hf).trans (shadowIfSaving_bonds _ b)

theorem raiseHigh_bonds (b : Bay) (c : Nat) : Bonds s (s.raiseHigh b c) :=
  setTable_bonds s (withEntry_tag b fun _ => by rfl)

theorem addEvidence_bonds (b : Bay) (k : EvidenceKind) : Bonds s (s.addEvidence b k) := by
  have hjoin := modBinding_bonds s b (f := fun bd => { bd with evidence := bd.evidence ++ [k] }) fun _ => by rfl
  unfold State.addEvidence
  split
  · exact .refl s
  · split
    · exact .refl s
    · dsimp only
      split
      · exact hjoin.trans ((flushTable_bonds _ (withEntry_tag b fun _ => by rfl)).trans
          ((latch_bonds _ _ _).trans (evalLine_bonds _ b)))
      · exact hjoin

theorem checkCounter_bonds (b : Bay) (c : Nat) : Bonds s (s.checkCounter b c) := by
  unfold State.checkCounter
  split
  · exact .refl s
  · split
    · exact addEvidence_bonds s b _
    · exact raiseHigh_bonds s b c

theorem active_ne_off {p : Phase} {bd : Binding} (h : p.active? = some bd) : p ≠ .off := by
  rintro rfl
  exact absurd h (by simp [Phase.active?])

/-- A request that a bound bay places as it changes its commit record. -/
theorem placeRequest_bonds (b : Bay) {op : OpKind} {f : Binding → Binding} (hop : op ≠ .identify)
    (hp : (s.bay b).phase ≠ .off) (hf : ∀ bd, (f bd).serial = bd.serial) :
    Bonds s ((s.modBay b fun r => { r with slot := some op }).changeCommit b f) :=
  (setSlot_bonds s b hop hp).trans (changeCommit_bonds _ b hf)

theorem evalTriggers_bonds (b : Bay) (n : Nat) : Bonds s (s.evalTriggers b n) := by
  unfold State.evalTriggers
  split
  · exact .refl s
  · next bd hbd =>
    split
    · exact placeRequest_bonds s b (by decide) (active_ne_off hbd) fun _ => by rfl
    · exact .refl s

theorem evalStep_bonds (b : Bay) : Bonds s (s.evalStep b) := evalTriggers_bonds s b _

theorem evalForSave_bonds : Bonds s s.evalForSave := .foldl (fun s b => evalTriggers_bonds s b 1) allBays s

theorem handOn_bonds (b : Bay) : Bonds s (s.handOn b) := (computeInk_bonds s b).trans (evalStep_bonds _ b)

/-! ### Releases (R114 to R116) -/

theorem active_serial {r : BayRec} {bd : Binding} (h : r.phase.active? = some bd) : r.serial? = some bd.serial := by
  unfold BayRec.serial?
  rw [active_is_bound h]
  rfl

theorem completeRelease_bonds (b : Bay) (rel : Release) (res : Result) : Bonds s (s.completeRelease b rel res) := by
  unfold State.completeRelease
  split
  · exact .refl s
  · next bd hbd =>
    refine Bonds.trans (modBay_bonds s b (.of_phase ?_ (fun h => absurd h (by simp)) fun _ => active_ne_off hbd))
      ((evalLine_bonds _ b).trans ((leftActive_bonds _ b false).trans (placeLong_bonds _ _ _ _ _ _)))
    rw [active_serial hbd]
    rfl

theorem placeFinal_bonds {b : Bay} (hp : (s.bay b).phase ≠ .off) : Bonds s (s.placeFinal b) :=
  placeRequest_bonds s b (by decide) hp fun _ => by rfl

theorem afterIdle_bonds (b : Bay) (fin : Bool) : Bonds s (s.afterIdle b fin) := by
  unfold State.afterIdle
  split
  · exact .refl s
  · next bd hbd =>
    split
    · split
      · exact completeRelease_bonds s b _ _
      · exact placeFinal_bonds s (active_ne_off hbd)
    · exact evalStep_bonds s b

theorem afterHalt_bonds (b : Bay) : Bonds s (s.afterHalt b) := by
  unfold State.afterHalt
  split
  · exact .refl s
  · split
    · exact completeRelease_bonds s b _ _
    · exact .refl s

/-! ### Launch and outcomes (R104 to R110) -/

theorem launch_bonds (b : Bay) (fin : Bool) : Bonds s (s.launch b fin) := changeCommit_bonds s b fun _ => by rfl

theorem commitComplete_bonds (b : Bay) (c : Nat) (fin : Bool) : Bonds s (s.commitComplete b c fin) :=
  (changeCommit_bonds s b fun _ => by rfl).trans ((computeInk_bonds _ b).trans (afterIdle_bonds _ b fin))

theorem stopCommits_bonds (b : Bay) (k : EvidenceKind) : Bonds s (s.stopCommits b k) :=
  (addEvidence_bonds s b k).trans ((changeCommit_bonds _ b fun _ => by rfl).trans
    ((latch_bonds _ _ _).trans ((computeInk_bonds _ b).trans (afterHalt_bonds _ b))))

theorem flightUnknown_bonds (b : Bay) : Bonds s (s.flightUnknown b) := by
  unfold State.flightUnknown
  split
  · exact .refl s
  · split
    · exact .refl s
    · exact (changeCommit_bonds s b fun _ => by rfl).trans ((latch_bonds _ _ _).trans (afterHalt_bonds _ b))

theorem lostAdvance_bonds (b : Bay) : Bonds s (s.lostAdvance b) := by
  unfold State.lostAdvance
  split
  · exact .refl s
  · next bd hbd =>
    cases bd.commit.state with
    | inFlight t fin => exact placeRequest_bonds s b (by decide) (active_ne_off hbd) fun _ => by rfl
    | idle | queued | reconciling | stopped | uncertain => exact .refl s

theorem advanceCounter_bonds (b : Bay) (c : Nat) : Bonds s (s.advanceCounter b c) := by
  have hraise := raiseHigh_bonds s b c
  unfold State.advanceCounter
  split
  · exact .refl s
  · next bd hbd =>
    cases bd.commit.state with
    | inFlight t fin =>
      dsimp only
      split
      · exact hraise.trans (commitComplete_bonds _ b c fin)
      · split <;> exact hraise.trans (stopCommits_bonds _ b _)
    | idle | queued | reconciling | stopped | uncertain => exact .refl s

theorem reconcileCounter_bonds (b : Bay) (c : Nat) : Bonds s (s.reconcileCounter b c) := by
  have hcheck := checkCounter_bonds s b c
  unfold State.reconcileCounter
  split
  · exact .refl s
  · next bd hbd =>
    cases bd.commit.state with
    | reconciling t fin =>
      dsimp only
      split
      · exact hcheck.trans (commitComplete_bonds _ b c fin)
      · exact hcheck.trans ((changeCommit_bonds _ b fun _ => by rfl).trans
          ((computeInk_bonds _ b).trans (afterIdle_bonds _ b false)))
    | idle | queued | inFlight | stopped | uncertain => exact .refl s

theorem withdraw_bonds (b : Bay) : Bonds s (s.withdraw b) := by
  unfold State.withdraw
  split
  · exact .refl s
  · split
    · have hidle := (clearSlot_bonds s b).trans (changeCommit_bonds _ b (f := fun bd => bd.setCommit .idle) fun _ => by rfl)
      dsimp only
      split
      · exact hidle.trans (completeRelease_bonds _ b _ _)
      · exact hidle
    · exact .refl s

/-- An operation that is abandoned goes on, flagged (R39). -/
theorem abandon_bonds (b : Bay) : Bonds s (s.abandon b) := by
  refine (clearSlot_bonds s b).trans (modLane_bonds _ _ fun r' hr' => ?_)
  obtain ⟨r, hr, rfl⟩ := Option.map_eq_some_iff.mp hr'
  refine ⟨r, hr, ?_⟩
  split
  · exact ⟨rfl, rfl, fun h => absurd h (by simp), id⟩
  · exact ⟨rfl, rfl, id, id⟩

/-! ### Refill watch (R145) and metering (chapter 5) -/

theorem survey_bonds (b : Bay) (bd : Binding) (raw : Nat) : Bonds s (s.survey b bd raw) := by
  have hreinsert : ∀ (s : State) n, Bonds s (s.reinsertStep b bd n) := by
    intro s n
    unfold State.reinsertStep
    split
    · split
      · exact addEvidence_bonds s b _
      · exact .refl s
    all_goals exact .refl s
  have hcounter : ∀ (s : State) n, Bonds s (s.counterStep b bd n) := by
    intro s n
    unfold State.counterStep
    split
    · split
      · exact (modBay_bonds_same s b rfl rfl).trans (addEvidence_bonds _ b _)
      · exact modBay_bonds_same s b rfl rfl
    · exact modBay_bonds_same s b rfl rfl
  have hlast : ∀ (s : State) n, Bonds s (s.lastSensedStep b n) := fun s n =>
    (setTable_bonds s (withEntry_tag b fun _ => by rfl)).trans (modBinding_bonds _ b fun _ => by rfl)
  exact (hreinsert s _).trans ((hcounter _ _).trans (hlast _ _))

theorem bayReading_bonds (b : Bay) (discard : Bool) (raw : Nat) : Bonds s (s.bayReading b discard raw) := by
  have htimed : ∀ t : State,
      Bonds t (if t.isActive b then t.modBay b fun r => { r with surveyTimer := some 0 } else t) := by
    intro t
    split
    · exact modBay_bonds_same t b rfl rfl
    · exact .refl t
  have hended : ∀ (t : State) x, Bonds t (State.passCheck { t with run := x }) := fun t x =>
    (setRun_bonds _ _).trans (passCheck_bonds _)
  unfold State.bayReading
  dsimp only
  refine Bonds.trans ?_ ((htimed _).trans (hended _ _))
  split
  · exact survey_bonds s b _ _
  · exact .refl s

theorem takeIn_serial (p : Phase) (c : Nat) : (p.takeIn c).binding?.map (·.serial) = p.binding?.map (·.serial) := by
  cases p <;> rfl

theorem setRemainder_serial (p : Phase) (x : Nat) :
    (p.setRemainder x).binding?.map (·.serial) = p.binding?.map (·.serial) := by
  cases p <;> rfl

theorem capture_serial (p : Phase) : p.capture.binding?.map (·.serial) = p.binding?.map (·.serial) := by
  cases p <;> rfl

/-- A phase that changes under a binding's serial and leaves OFF as it is. -/
theorem RecBonds.of_figures {d : DeviceState} {r r' : BayRec} {g : Phase → Phase} (hp : r'.phase = g r.phase)
    (hs : r'.slot = r.slot) (hserial : (g r.phase).binding?.map (·.serial) = r.phase.binding?.map (·.serial))
    (hoff : g .off = .off) : RecBonds d r r' := by
  have hserial' : r'.serial? = r.serial? := by rw [BayRec.serial?, hp]; exact hserial
  exact ⟨hserial', fun h hi => hserial'.trans (h (hs ▸ hi)), fun _ ⟨ho, hn⟩ => ⟨by rw [hp, ho, hoff], hs.trans hn⟩⟩

theorem takeIn_bonds (b : Bay) (c : Nat) : Bonds s (s.modBay b fun r => { r with phase := r.phase.takeIn c }) :=
  modBay_bonds s b (.of_figures (g := Phase.takeIn c) rfl rfl (takeIn_serial _ c) rfl)

theorem tallyEntry_bonds (e : TallyEntry) : Bonds s (s.tallyEntry e) := by
  have htaken : ∀ (b : Bay) (c x : Nat),
      Bonds s (s.modBay b fun r => { r with phase := (r.phase.takeIn c).setRemainder x }) := fun b c x =>
    modBay_bonds s b (.of_figures (g := fun p => (p.takeIn c).setRemainder x) rfl rfl
      ((setRemainder_serial _ x).trans (takeIn_serial _ c)) rfl)
  unfold State.tallyEntry
  split
  · unfold State.tallyBay
    split
    · exact latch_bonds s _ _
    all_goals exact htaken _ _ _
  · exact .refl s

theorem swathEnd_bonds : Bonds s s.swathEnd := by
  have hstaged : ∀ r : BayRec, r.activateStaged.phase = r.phase ∧ r.activateStaged.slot = r.slot := by
    intro r
    unfold BayRec.activateStaged
    split <;> exact ⟨rfl, rfl⟩
  exact mapBays_bonds s fun b =>
    .of_figures (g := Phase.capture) (hstaged _).1 (hstaged _).2 (capture_serial _) rfl

theorem handOnAll_bonds (chosen : Bay → Bool) : Bonds s (s.handOnAll chosen) := by
  refine .foldl (fun s b => ?_) allBays s
  split
  · exact handOn_bonds s b
  · exact .refl s

theorem placePair_bonds (b : Bay) (pair : Thresholds) : Bonds s (s.modBay b fun x => x.placePair pair) := by
  refine modBay_bonds s b ?_
  unfold BayRec.placePair
  split
  · exact .of_same rfl rfl
  · next bd hbd =>
    refine .of_phase ?_ id fun _ ho => absurd (hbd.symm.trans ho) (by simp)
    rw [BayRec.serial?, BayRec.serial?, hbd]
    rfl
  all_goals exact .of_same rfl rfl

theorem setCalib_bonds (b : Bay) (c : Calib) : Bonds s (s.setCalib b c) := by
  have hreset : Bonds s (((s.modBayCfg b fun x => { x with calib := c }).discardConversion b).modBay b fun r =>
      { r with counter := 0, wanted := r.wanted || s.senseWants b c }) :=
    (modBayCfg_bonds s b _).trans ((discardConversion_bonds _ b).trans (modBay_bonds_same _ b rfl rfl))
  unfold State.setCalib
  dsimp only
  split
  · exact hreset
  · exact hreset.trans ((setRun_bonds _ _).trans (passCheck_bonds _))

end Sys2Proof.Machine

/-! Unbinding, binding and the lanes: table and bindings still agree (R48, R58, R62 to R65). -/

namespace Sys2Proof.Machine

/-! ### A bay that is bound anew or no longer -/

section

variable {free : Option Lane} {s t : State} {b : Bay}

/-- A bay changes its binding and the table with it, in a RUNNING device: nothing more is needed than that they agree, and
that neither the bay's slot nor an IDENTIFY that counts still waits for a bay that is bound. -/
theorem Linked.rebound (h : Linked free s) (hd : s.device = .running) (hon : ActsOn b s t)
    (hagree : Agree (t.table.map Entry.tag) fun c => (t.bay c).serial?)
    (hslot : (t.bay b).slot = some .identify → (t.bay b).serial? = none)
    (hlane : ∀ l r, free ≠ some l → (s.lane l).running = some r → bayAt l r.position = b →
      (s.bay b).serial? = none → (t.bay b).serial? = none) : Linked free t where
  agree := hagree
  slots c hc := by
    by_cases hcb : c = b
    · rw [hcb] at hc ⊢
      exact hslot hc
    · have hkept : RecBonds s.device (s.bay c) (t.bay c) := .of_schedule (hon.others c hcb)
      exact hkept.slot (h.slots c) hc
  lanes l r hl hr hop ha := by
    rw [hon.lane] at hr
    have hold := h.lanes l r hl hr hop ha
    by_cases hcb : bayAt l r.position = b
    · rw [hcb] at hold ⊢
      exact hlane l r hl hr hcb hold
    · have hkept : RecBonds s.device _ _ := .of_schedule (hon.others _ hcb)
      exact hkept.serial.trans hold
  reads l r hr := h.reads l r (by rwa [hon.lane] at hr)
  quiet := by
    have hd' : t.device = .running := hon.core.device.trans hd
    exact ⟨fun hn => absurd hd' hn, fun hn => absurd (hd'.symm.trans hn) (by decide)⟩

/-- The serials once one bay has changed its own. -/
theorem serials_update (hon : ActsOn b s t) {x : Option Serial} (hx : (t.bay b).serial? = x) :
    (fun c => (t.bay c).serial?) = Function.update (fun c => (s.bay c).serial?) b x := by
  funext c
  by_cases hcb : c = b
  · rw [hcb, Function.update_self, hx]
  · rw [Function.update_of_ne hcb]
    have hkept : RecBonds s.device (s.bay c) (t.bay c) := .of_schedule (hon.others c hcb)
    exact hkept.serial

/-! ### Unbinding (R58, R59) -/

theorem tableUnbound_tags (table : List Entry) (b : Bay) (bd : Binding) :
    (tableUnbound table b bd).map Entry.tag = unnameBay b (table.map Entry.tag) := by
  unfold tableUnbound unnameBay
  rw [List.map_map, List.map_map]
  refine List.map_congr_left fun e _ => ?_
  show (if e.bay = some b then _ else e).tag = if e.bay = some b then (e.serial, none) else e.tag
  split <;> rfl

theorem Linked.unbind (h : Linked free s) (b : Bay) {next : Phase} (hn : next.binding? = none) (removed : Bool) :
    Linked free (s.unbind b next removed) := by
  cases hbd : (s.bay b).phase.binding? with
  | none =>
    unfold State.unbind
    rw [hbd]
    exact h
  | some bd =>
    obtain ⟨hphase, -⟩ := unbind_bay hbd next removed
    obtain ⟨htable, -⟩ := unbind_rest hbd next removed
    have hon := unbind_on s b next removed
    have hnone : ((s.unbind b next removed).bay b).serial? = none := serial?_none_iff.mpr (hphase.symm ▸ hn)
    have hrunning : s.device = .running := h.running_of_phase (b := b) fun ho => by
      rw [ho] at hbd
      exact absurd hbd (by simp [Phase.binding?])
    refine h.rebound hrunning hon ?_ (fun _ => hnone) fun _ _ _ _ _ _ => hnone
    rw [htable, tableUnbound_tags, serials_update hon hnone]
    exact h.agree.unbind b

theorem Linked.badResponse (h : Linked free s) (b : Bay) : Linked free (s.badResponse b) :=
  (h.unbind b rfl false).of_bonds (latch_bonds _ _ _)

theorem Linked.leavePhase (h : Linked free s) (hd : s.device = .running) (b : Bay) {next : Phase}
    (hn : next.binding? = none) (removed : Bool) : Linked free (s.leavePhase b next removed) := by
  cases hbd : (s.bay b).phase.binding? with
  | some bd =>
    have hunbind : s.leavePhase b next removed = s.unbind b next removed := by
      unfold State.leavePhase
      rw [hbd]
    rw [hunbind]
    exact h.unbind b hn removed
  | none =>
    have hset : s.leavePhase b next removed = s.setPhase b next := by
      unfold State.leavePhase
      rw [hbd]
    rw [hset]
    exact h.of_bonds (setPhase_bonds s b hd (serial?_none_iff.mpr hbd) hn)

theorem enterRejected_bonds (s : State) {b : Bay} (hd : s.device = .running) (hb : (s.bay b).serial? = none)
    (reason : RejectReason) : Bonds s (s.enterRejected b reason) :=
  (setPhase_bonds s b hd hb rfl).trans (latch_bonds _ _ _)

end

/-! ### The front of the table (R63, R64) -/

section

variable {t : List Entry} {held : Bay → Option Serial}

theorem evictLast_sublist (t : List Entry) : (evictLast t).Sublist t := by
  induction t with
  | nil => exact List.Sublist.refl _
  | cons e es ih =>
    unfold evictLast
    split
    · exact ih.cons_cons e
    · split
      · exact List.sublist_cons_self e es
      · exact List.Sublist.refl _

theorem evictLast_named {t : List Entry} {x : Entry} (hx : x ∈ t) (hn : x.bay ≠ none) : x ∈ evictLast t := by
  induction t with
  | nil => exact hx
  | cons e es ih =>
    unfold evictLast
    split
    · obtain rfl | hx := List.mem_cons.mp hx
      · exact List.mem_cons_self
      · exact List.mem_cons_of_mem _ (ih hx)
    · split
      · next he =>
        obtain rfl | hx := List.mem_cons.mp hx
        · exact absurd (Option.isNone_iff_eq_none.mp he) hn
        · exact hx
      · exact hx

theorem evictLast_shorter {t : List Entry} (h : ∃ e ∈ t, e.bay = none) : (evictLast t).length < t.length := by
  induction t with
  | nil =>
    obtain ⟨e, he, -⟩ := h
    exact absurd he List.not_mem_nil
  | cons e es ih =>
    unfold evictLast
    split
    · next hany =>
      obtain ⟨x, hx, hn⟩ := List.any_eq_true.mp hany
      exact Nat.succ_lt_succ (ih ⟨x, hx, Option.isNone_iff_eq_none.mp hn⟩)
    · next hany =>
      obtain ⟨x, hx, hn⟩ := h
      obtain rfl | hx := List.mem_cons.mp hx
      · rw [if_pos (by rw [hn]; rfl)]
        exact Nat.lt_succ_self _
      · exact absurd (List.any_eq_true.mpr ⟨x, hx, by rw [hn]; rfl⟩) hany

/-- The entries behind the front one: fewer than 32, in their order, none of the serial, and all that name a bay. -/
theorem frontEntry_tags (h : Agree (t.map Entry.tag) held) {rec' : TagRecord} (c : Nat) :
    let rest := (frontEntry t rec' c).2
    rest.Sublist t ∧ rest.length < 32 ∧ (∀ e ∈ rest, e.serial ≠ rec'.serial) ∧
      ∀ e ∈ t, e.serial ≠ rec'.serial → e.bay ≠ none → e ∈ rest := by
  have hroom : t.length ≤ 32 := by simpa using h.room
  have hserials : (t.map (·.serial)).Nodup := by
    have hnodup := h.nodup
    rwa [List.map_map] at hnodup
  cases hfind : t.find? fun e => e.serial = rec'.serial with
  | some x =>
    have hx : x ∈ t := List.mem_of_find?_eq_some hfind
    have hp : x.serial = rec'.serial := by simpa using List.find?_some hfind
    obtain ⟨a, before, behind, hbefore, ha, ht, herase⟩ :=
      List.exists_of_eraseP (p := fun e : Entry => decide (e.serial = rec'.serial)) hx (decide_eq_true hp)
    rw [frontEntry_found hfind]
    refine ⟨List.eraseP_sublist, ?_, fun e he hserial => ?_, fun e he hne _ => ?_⟩
    · show (t.eraseP _).length < 32
      rw [herase]
      rw [ht] at hroom
      simp only [List.length_append, List.length_cons] at hroom ⊢
      omega
    · rw [show (x, t.eraseP fun e => decide (e.serial = rec'.serial)).2 = before ++ behind from herase] at he
      obtain hin | hin := List.mem_append.mp he
      · exact absurd hserial (by simpa using hbefore e hin)
      · rw [ht, List.map_append, List.map_cons] at hserials
        have hcons := (List.nodup_append.mp hserials).2.1
        have hnot := (List.nodup_cons.mp hcons).1
        exact hnot (List.mem_map.mpr ⟨e, hin, hserial.trans (of_decide_eq_true ha).symm⟩)
    · exact (List.mem_eraseP_of_neg (by simpa using hne)).mpr he
  | none =>
    have hnew : ∀ e ∈ t, e.serial ≠ rec'.serial := fun e he => by
      simpa using List.find?_eq_none.mp hfind e he
    rw [frontEntry_new hfind]
    by_cases hlen : t.length < 32
    · dsimp only
      rw [if_pos hlen]
      exact ⟨List.Sublist.refl _, hlen, hnew, fun e he _ _ => he⟩
    · dsimp only
      rw [if_neg hlen]
      have hsub := evictLast_sublist t
      obtain ⟨p, hmem, hnone⟩ := h.some_unnamed (by rw [List.length_map]; omega)
      obtain ⟨e, he, rfl⟩ := List.mem_map.mp hmem
      have hshorter := evictLast_shorter ⟨e, he, hnone⟩
      exact ⟨hsub, by omega, fun e he => hnew e (hsub.subset he), fun e he _ hn => evictLast_named he hn⟩

/-- The tags of the table that a binding leaves agree with the serials it leaves. -/
theorem frontEntry_agree (h : Agree (t.map Entry.tag) held) {b : Bay} {rec' : TagRecord} (c : Nat)
    (hb : held b = none) (hx : ∀ c, held c ≠ some rec'.serial) :
    Agree ((rec'.serial, some b) :: (frontEntry t rec' c).2.map Entry.tag)
      (Function.update held b (some rec'.serial)) := by
  obtain ⟨hsub, hlen, hnew, hkept⟩ := frontEntry_tags h (rec' := rec') c
  refine h.bind hb hx (hsub.map _) (by rwa [List.length_map]) (fun hmem => ?_) fun p hp hne hn => ?_
  · obtain ⟨p, hp, hfst⟩ := List.mem_map.mp hmem
    obtain ⟨e, he, rfl⟩ := List.mem_map.mp hp
    exact hnew e he hfst
  · obtain ⟨e, he, rfl⟩ := List.mem_map.mp hp
    exact List.mem_map_of_mem (hkept e he hne hn)

end

/-! ### Binding (R48, R51 to R55) -/

section

variable {s : State} {b : Bay} {l : Lane}

theorem laneOf_bayAt (l : Lane) (p : Position) : laneOf (bayAt l p) = l := by
  revert l p
  decide

theorem serial_unheld {serial : Serial} (h : s.holder b serial = none) (hb : (s.bay b).serial? = none) (c : Bay) :
    (s.bay c).serial? ≠ some serial := by
  intro hc
  by_cases hcb : c = b
  · rw [hcb, hb] at hc
    exact absurd hc (by simp)
  · refine absurd ?_ (List.find?_eq_none.mp h c (mem_allBays c))
    simp only [Bool.and_eq_true, bne_iff_ne, ne_eq, hcb, not_false_eq_true, beq_iff_eq, true_and]
    exact hc

/-- A bay of the lane that is freed becomes bound, with a serial no other bay has. -/
theorem Linked.bind {rec' : TagRecord} (h : Linked (some l) s) (hd : s.device = .running) (hl : laneOf b = l)
    (hb : (s.bay b).serial? = none) (hholder : s.holder b rec'.serial = none) (k : KeySlot) (c : Nat) :
    Linked (some l) (s.bind b rec' k c) := by
  rw [bind_eq]
  generalize hentry : s.boundEntry _ _ = entry
  generalize hbd : openBinding _ rec' k c = bd at hentry ⊢
  have hserial : bd.serial = rec'.serial := by rw [← hbd]; rfl
  obtain ⟨-, -, -, -, -, -, hfront⟩ := frontEntry_fields (t := s.table) (rec' := rec') (c := c)
  obtain ⟨hbay, heserial, -⟩ := boundEntry_fields s b rec' k c (frontEntry s.table rec' c).1
  rw [hbd, hentry] at hbay heserial
  have htag : entry.tag = (rec'.serial, some b) := by
    rw [Entry.tag, hbay, heserial, hfront]
  have hon := (boundWith_only s b bd entry (frontEntry s.table rec' c).2).actsOn
  obtain ⟨hphase, hslot, -⟩ := boundWith_bay s b bd entry (frontEntry s.table rec' c).2
  have hbound : ((s.boundWith b bd entry (frontEntry s.table rec' c).2).bay b).serial? = some rec'.serial := by
    unfold BayRec.serial?
    rw [hphase, ← hserial]
    rfl
  refine (h.rebound hd hon ?_ (fun hi => absurd (hslot.symm.trans hi) (by simp)) fun m r hm _ hat _ => ?_).of_bonds
    (evalStep_bonds _ b)
  · rw [boundWith_table, List.map_cons, htag, serials_update hon hbound]
    exact frontEntry_agree h.agree c hb (serial_unheld hholder hb)
  · refine absurd (congrArg some ?_) hm
    rw [← hl, ← hat, laneOf_bayAt]

theorem Linked.identified (h : Linked (some l) s) (hd : s.device = .running) (hl : laneOf b = l)
    (hb : (s.bay b).serial? = none) (rec' : TagRecord) (c : Nat) : Linked (some l) (s.identified b rec' c) := by
  have hrejected : ∀ reason, Linked (some l) (s.enterRejected b reason) := fun reason =>
    h.of_bonds (enterRejected_bonds s hd hb reason)
  unfold State.identified
  split
  · exact hrejected _
  · split
    · exact (hrejected _).of_bonds ((flushTable_bonds _ (withEntry_tag _ fun _ => by rfl)).trans (latch_bonds _ _ _))
    · next hholder =>
      split
      · exact h.bind hd hl hb hholder _ c
      · exact hrejected _

end

end Sys2Proof.Machine

/-! The lanes keep table and bindings in agreement (R31 to R39): an IDENTIFY starts for a bay that is not bound, and while it
counts the bay stays so until its owner acts. -/

namespace Sys2Proof.Machine

section

variable {free : Option Lane} {s : State} {l : Lane} {r : Running}

/-- What a running operation may be: READ_RECORD is sent for an IDENTIFY alone, and an IDENTIFY that counts is for a bay that
is not bound. -/
structure Serves (s : State) (l : Lane) (r : Running) : Prop where
  device : s.device = .running
  reads : r.step = .readRecord → r.op = .identify
  identify : r.op = .identify → (s.bay (bayAt l r.position)).serial? = none

/-- The operation on a lane that is not abandoned (R39). -/
theorem Linked.serves (h : Linked none s) (hr : (s.lane l).running = some r) (ha : r.abandoned = false) :
    Serves s l r :=
  ⟨h.running_of_lane fun hn => by rw [hr] at hn; exact absurd hn (by simp), h.reads l r hr,
    fun hop => h.lanes l r (by simp) hr hop ha⟩

theorem Serves.of_bonds {t : State} (h : Serves s l r) (hb : Bonds s t) : Serves t l r :=
  ⟨hb.device.trans h.device, h.reads, fun hop => (hb.serial _).trans (h.identify hop)⟩

/-- A lane takes on an operation that it may run. -/
theorem Linked.runs (h : Linked free s) {f : LaneRec → LaneRec} (hf : (f (s.lane l)).running = some r)
    (hr : Serves s l r) : Linked free (s.modLane l f) where
  agree := h.agree
  slots := h.slots
  lanes m x hm hx hop ha := by
    by_cases hml : m = l
    · subst hml
      rw [lane_modLane_same, hf, Option.some.injEq] at hx
      subst hx
      exact hr.identify hop
    · rw [lane_modLane_other _ hml] at hx
      exact h.lanes m x hm hx hop ha
  reads m x hx hstep := by
    by_cases hml : m = l
    · subst hml
      rw [lane_modLane_same, hf, Option.some.injEq] at hx
      subst hx
      exact hr.reads hstep
    · rw [lane_modLane_other _ hml] at hx
      exact h.reads m x hx hstep
  quiet := ⟨fun hn => absurd hr.device hn, fun hn => absurd (hr.device.symm.trans hn) (by decide)⟩

/-- A command is put on the lane for an operation that it may run. -/
theorem Linked.onLane (h : Linked free s) (hr : Serves s l r) : Linked free (s.onLane l r) :=
  h.runs (r := { r with timer := none }) rfl ⟨hr.device, hr.reads, hr.identify⟩

theorem Linked.sendReadRecord (h : Linked free s) (hr : Serves s l r) (hop : r.op = .identify) (n : Nat) :
    Linked free (s.sendReadRecord l r n) :=
  h.onLane ⟨hr.device, fun _ => hop, hr.identify⟩

theorem Linked.sendChallenge (h : Linked free s) (hr : Serves s l r) (n : Nat) : Linked free (s.sendChallenge l r n) :=
  Linked.onLane (s := { s with nonceDraws := s.nonceDraws + 1 })
    (h.of_bonds (.of_frame rfl rfl rfl rfl rfl)) ⟨hr.device, nofun, hr.identify⟩

theorem Linked.sendAdvance (h : Linked free s) (hr : Serves s l r) (nonce : Key) :
    Linked free (s.sendAdvance l r nonce) :=
  h.onLane ⟨hr.device, nofun, hr.identify⟩

/-! ### Starting an operation (R31 to R34) -/

theorem tellOwner_bonds (s : State) {b : Bay} {op : OpKind} (hd : s.device = .running) : Bonds s (s.tellOwner b op) := by
  cases op with
  | identify =>
    unfold State.tellOwner
    dsimp only
    split
    · next hseated =>
      exact setPhase_bonds s b hd (serial?_none_iff.mpr (by rw [hseated]; rfl)) rfl
    · exact .refl s
  | commit => exact launch_bonds s b false
  | reconcile => exact .refl s
  | final => exact launch_bonds s b true

theorem Linked.startOp (h : Linked free s) {p : Position} {op : OpKind}
    (hslot : (s.bay (bayAt l p)).slot = some op) : Linked free (s.startOp l p op) := by
  have hd : s.device = .running := h.running_of_slot (b := bayAt l p) (by rw [hslot]; simp)
  have hunbound : op = .identify → (s.bay (bayAt l p)).serial? = none := fun hop => h.slots _ (hop ▸ hslot)
  have hsteps : ∀ st : TagStep, (if op == .identify then TagStep.readRecord else .challenge) = st → st = .readRecord →
      op = .identify := by
    rintro st rfl hst
    by_contra hop
    simp [hop] at hst
  have htaken := clearSlot_bonds s (bayAt l p)
  have hserves : ∀ r : Running, r.position = p → r.op = op →
      r.step = (if op == .identify then TagStep.readRecord else .challenge) →
      Serves (s.modBay (bayAt l p) fun x => { x with slot := none }) l r := by
    rintro r rfl rfl hstep
    exact ⟨hd, fun hread => hsteps _ hstep.symm hread, fun hop => (htaken.serial _).trans (hunbound hop)⟩
  unfold State.startOp
  dsimp only
  generalize hr : (Running.mk p op _ _ _ _ _ _ _ _ _) = r
  have hr' := hserves r (by rw [← hr]) (by rw [← hr]) (by rw [← hr])
  have hbusy := (h.of_bonds htaken).runs (f := fun x => { x with running := some r, lastServed := p }) rfl hr'
  generalize hb : State.modLane _ l _ = busy at hbusy ⊢
  have htold : Bonds busy (busy.tellOwner (bayAt l p) op) := tellOwner_bonds busy (by rw [← hb]; exact hd)
  have hserved : Serves (busy.tellOwner (bayAt l p) op) l r := by
    refine Serves.of_bonds ?_ htold
    rw [← hb]
    exact ⟨hr'.device, hr'.reads, hr'.identify⟩
  by_cases hop : op = .identify
  · rw [if_pos (by rw [hop]; rfl)]
    exact (hbusy.of_bonds htold).sendReadRecord hserved (by rw [← hr]; exact hop) 1
  · rw [if_neg (by simpa using hop)]
    exact (hbusy.of_bonds htold).sendChallenge hserved 1

theorem chosen_slot {p : Position} {op : OpKind} (h : s.chosen l = some (p, op)) :
    (s.bay (bayAt l p)).slot = some op := by
  obtain ⟨op', -, hfound⟩ := List.exists_of_findSome?_eq_some h
  obtain ⟨p', hfind, heq⟩ := Option.map_eq_some_iff.mp hfound
  obtain ⟨rfl, rfl⟩ := Prod.mk.inj heq
  have hcandidate := List.find?_some hfind
  unfold State.candidate at hcandidate
  simp only [Bool.and_eq_true, beq_iff_eq] at hcandidate
  exact hcandidate.1

theorem Linked.arbitrate (h : Linked free s) (l : Lane) : Linked free (s.arbitrate l) := by
  unfold State.arbitrate
  split
  · exact h
  · split
    · next hchosen => exact h.startOp (chosen_slot hchosen)
    · exact h

theorem Linked.arbitrateAll (h : Linked free s) : Linked free s.arbitrateAll := by
  unfold State.arbitrateAll
  exact List.foldlRecOn allLanes State.arbitrate h fun _ ht l _ => ht.arbitrate l

theorem Linked.settleConverter (h : Linked free s) : Linked free s.settleConverter :=
  h.of_bonds (settleConverter_bonds s)

theorem Linked.runArbiters (h : Linked free s) : Linked free s.runArbiters := h.arbitrateAll.settleConverter

/-! ### Ends of operations (R38, R39) -/

/-- A lane that is freed has no IDENTIFY left to speak of. -/
theorem Linked.freeLane (h : Linked (some l) s) : Linked none (s.freeLane l) := by
  have hidle := h.of_bonds (modLane_bonds s l (f := fun x => { x with running := none }) fun r hr => by simp at hr)
  refine Linked.arbitrate ⟨hidle.agree, hidle.slots, fun m r _ hr hop ha => ?_, hidle.reads, hidle.quiet⟩ l
  by_cases hm : m = l
  · subst hm
    rw [lane_modLane_same] at hr
    exact absurd hr (by simp)
  · exact hidle.lanes m r (fun hl => hm (Option.some.inj hl).symm) hr hop ha

/-- The end of an operation whose owner keeps table and bindings in agreement, with its lane about to be free. -/
theorem Linked.endOperation (h : Linked none s) (l : Lane) {owner : State → State}
    (ho : ∀ t, t.device = s.device → (∀ b, t.bay b = s.bay b) → Linked (some l) t → Linked (some l) (owner t)) :
    Linked none (s.endOperation l owner) := by
  refine Linked.freeLane (ho _ rfl (fun b => rfl) ((h.weaken l).of_bonds (modLane_bonds s l fun r' hr' => ?_)))
  obtain ⟨r, hr, rfl⟩ := Option.map_eq_some_iff.mp hr'
  exact ⟨r, hr, rfl, rfl, id, id⟩

/-- The end of an operation whose owner changes no binding. -/
theorem Linked.endOperation_bonds (h : Linked none s) (l : Lane) {owner : State → State}
    (ho : ∀ t, Bonds t (owner t)) : Linked none (s.endOperation l owner) :=
  h.endOperation l fun t _ _ ht => ht.of_bonds (ho t)

theorem Linked.failIdentify (h : Linked none s) (hr : Serves s l r) (hop : r.op = .identify) (reason : RejectReason) :
    Linked none (s.failIdentify l (bayAt l r.position) reason) :=
  h.endOperation l fun t hd hb ht =>
    ht.of_bonds (enterRejected_bonds t (hd.trans hr.device) (by rw [hb]; exact hr.identify hop) reason)

/-! ### Judging replies (R27 to R30) -/

theorem Linked.recordReply (h : Linked none s) (hr : Serves s l r) (hop : r.op = .identify) (bytes : List Byte) :
    Linked none (s.recordReply l r bytes) := by
  unfold State.recordReply
  dsimp only
  split
  · split
    · exact h.failIdentify hr hop _
    · exact h.sendChallenge (r := { r with record := some _ }) ⟨hr.device, hr.reads, hr.identify⟩ 1
  · split
    · exact h.sendReadRecord (r := { r with badRecord := true }) ⟨hr.device, hr.reads, hr.identify⟩ hop _
    · exact h.failIdentify hr hop _

theorem Linked.challengeCounter (h : Linked none s) (hr : Serves s l r) (c : Nat) :
    Linked none (s.challengeCounter l r c) := by
  have hcheck := checkCounter_bonds s (bayAt l r.position) c
  unfold State.challengeCounter
  dsimp only
  split
  · next hop =>
    split
    · exact h.endOperation l fun t hd hb ht =>
        ht.identified (hd.trans hr.device) (laneOf_bayAt l _) (by rw [hb]; exact hr.identify hop) _ c
    · exact h
  · exact (h.of_bonds hcheck).sendAdvance (hr.of_bonds hcheck) _
  · exact (h.of_bonds hcheck).sendAdvance (hr.of_bonds hcheck) _
  · exact h.endOperation_bonds l fun t => reconcileCounter_bonds t _ c

theorem Linked.challengeMismatch (h : Linked none s) (hr : Serves s l r) : Linked none (s.challengeMismatch l r) := by
  unfold State.challengeMismatch
  dsimp only
  split
  · next hop => exact h.failIdentify hr hop _
  all_goals exact h.endOperation l fun t _ _ ht => ht.badResponse _

theorem Linked.challengeNone (h : Linked none s) (hr : Serves s l r) : Linked none (s.challengeNone l r) := by
  unfold State.challengeNone
  dsimp only
  split
  · next hop => exact h.failIdentify hr hop _
  all_goals exact h.endOperation_bonds l fun t => flightUnknown_bonds t _

theorem Linked.judgeReply (h : Linked none s) (hr : Serves s l r) (bytes : List Byte) :
    Linked none (s.judgeReply l r bytes) := by
  unfold State.judgeReply
  dsimp only
  split
  · next hstep => exact h.recordReply hr (hr.reads hstep) bytes
  · split
    · exact h.challengeCounter hr _
    · exact h.challengeMismatch hr
  · split
    · exact h.endOperation_bonds l fun t => advanceCounter_bonds t _ _
    · exact h.endOperation_bonds l fun t => lostAdvance_bonds t _

theorem Linked.noReply (h : Linked none s) (hr : Serves s l r) : Linked none (s.noReply l r) := by
  unfold State.noReply
  dsimp only
  split
  · next hstep =>
    split
    · exact h.sendReadRecord hr (hr.reads hstep) _
    · exact h.failIdentify hr (hr.reads hstep) _
  · split
    · exact h.sendChallenge hr _
    · exact h.challengeNone hr
  · exact h.endOperation_bonds l fun t => lostAdvance_bonds t _

theorem Linked.tagReply (h : Linked none s) (l : Lane) (bytes : List Byte) : Linked none (s.tagReply l bytes) := by
  unfold State.tagReply
  split
  · exact h
  · next r hr =>
    split
    · exact h
    · split
      · split
        · exact (h.weaken l).freeLane
        · next ha =>
          have hserves := h.serves hr (by simpa using ha)
          exact h.judgeReply ⟨hserves.device, hserves.reads, hserves.identify⟩ bytes
      · exact h

theorem Linked.replyExpiry (h : Linked none s) (l : Lane) : Linked none (s.replyExpiry l) := by
  unfold State.replyExpiry
  split
  · exact h
  · next r hr =>
    split
    · exact h
    · split
      · split
        · exact (h.weaken l).freeLane
        · next ha =>
          have hserves := h.serves hr (by simpa using ha)
          exact h.noReply ⟨hserves.device, hserves.reads, hserves.identify⟩
      · exact h

theorem Linked.commandEnd (h : Linked none s) (l : Lane) : Linked none (s.commandEnd l) := by
  unfold State.commandEnd
  split
  · exact h
  · next r hr =>
    split
    · exact h
    · refine h.of_bonds (modLane_bonds s l fun r' hr' => ?_)
      obtain rfl := Option.some.inj hr'
      exact ⟨r, hr, rfl, rfl, id, id⟩

/-! ### Conversions (R137, R150) -/

theorem Linked.laneReading (h : Linked free s) (l : Lane) (raw : Nat) : Linked free (s.laneReading l raw) := by
  have hchecked : ∀ hold, Bonds s (s.modLane l fun x =>
      { x with writeHold := hold, lastSupply := some raw, supplyTimer := some 0 }) := fun hold =>
    modLane_bonds s l (.of_running rfl)
  have hended : ∀ (t : State) (c : Bool), Bonds s t → Linked free (if c then t.arbitrate l else t) := by
    intro t c ht
    split
    · exact (h.of_bonds ht).arbitrate l
    · exact h.of_bonds ht
  unfold State.laneReading
  apply hended
  split
  · exact (hchecked _).trans (latch_bonds _ _ _)
  · exact hchecked _

theorem Linked.conversionComplete (h : Linked free s) (raw : Nat) : Linked free (s.conversionComplete raw) := by
  have hidle : Bonds s { s with converter := none } := .of_frame rfl rfl rfl rfl rfl
  unfold State.conversionComplete
  split
  · exact h
  · dsimp only
    split
    · exact ((h.of_bonds hidle).of_bonds (bayReading_bonds _ _ _ _)).settleConverter
    · exact ((h.of_bonds hidle).laneReading _ _).settleConverter

end

end Sys2Proof.Machine

/-! Every command keeps table and bindings in agreement (R62): O60. -/

namespace Sys2Proof.Machine

section

variable {free : Option Lane} {s : State}

/-! ### Bay commands and presence (chapter 1) -/

/-- Nothing is bound, waiting or running after a cold start (R185). -/
theorem linked_coldStart (s : State) : Linked free (coldStart s) := by
  have hreset := (tableConsistent_iff _).mp reset_tableConsistent
  have hcold : Linked none (coldStart s) :=
    ⟨hreset.agree, hreset.slots, hreset.lanes, hreset.reads, hreset.quiet⟩
  exact ⟨hcold.agree, hcold.slots, fun l r _ => hcold.lanes l r (by simp), hcold.reads, hcold.quiet⟩

/-- IDENTIFY is placed at a bay that is not bound, in a RUNNING device. -/
theorem placeIdentify_bonds (s : State) {b : Bay} (hd : s.device = .running) (hb : (s.bay b).serial? = none) :
    Bonds s (s.modBay b fun r => { r with slot := some .identify }) :=
  modBay_bonds s b ⟨rfl, fun _ _ => hb, fun hn => absurd hd hn⟩

theorem leavePhase_unbound (s : State) (b : Bay) {next : Phase} (hn : next.binding? = none) (removed : Bool) :
    ((s.leavePhase b next removed).bay b).serial? = none := by
  refine serial?_none_iff.mpr ?_
  have hphase : ((s.leavePhase b next removed).bay b).phase = next := by
    unfold State.leavePhase
    split
    · next bd hbd => exact (unbind_bay hbd next removed).1
    · unfold State.setPhase State.evalLine
      rw [bay_modBay_same, bay_modBay_same]
  rw [hphase]
  exact hn

theorem Linked.recheck (h : Linked free s) (hd : s.device = .running) (b : Bay) : Linked free (s.recheck b) := by
  have habandon := abandon_bonds s b
  have hleft := (h.of_bonds habandon).leavePhase (habandon.device.trans hd) b (next := .identifying) rfl false
  refine hleft.of_bonds (placeIdentify_bonds _ ?_ (leavePhase_unbound _ b rfl false))
  exact (leavePhase_on _ b _ _).core.device.trans (habandon.device.trans hd)

theorem clearSite_bonds (s : State) (site : Site) : Bonds s (s.clearSite site) := .of_frame rfl rfl rfl rfl rfl

theorem Linked.turnOff (h : Linked free s) (hd : s.device = .running) (b : Bay) : Linked free (s.turnOff b) := by
  have habandon := abandon_bonds s b
  have hleft := (h.of_bonds habandon).leavePhase (habandon.device.trans hd) b (next := .off) rfl false
  have hstopped := modBay_bonds_same ((s.abandon b).leavePhase b .off false) b
    (f := fun x => { x with filter := Filter.stopped }) rfl rfl
  exact (hleft.of_bonds hstopped).of_bonds (clearSite_bonds _ _)

theorem turnOn_bonds (s : State) {b : Bay} (hd : s.device = .running) (hoff : (s.bay b).phase = .off) :
    Bonds s (s.turnOn b) :=
  (setPhase_bonds s b hd (serial?_none_iff.mpr (by rw [hoff]; rfl)) rfl).trans
    (modBay_bonds _ b ⟨rfl, fun _ hi => absurd hi (by simp), fun hn => absurd hd hn⟩)

theorem Linked.closeWindow (h : Linked free s) (b : Bay) (level : Presence) : Linked free (s.closeWindow b level) := by
  have hclosed := h.of_bonds (modBay_bonds_same s b (f := fun r => { r with filter := { level := level, window := none } })
    rfl rfl)
  unfold State.closeWindow
  dsimp only
  generalize s.modBay b _ = t at hclosed ⊢
  split
  · unfold State.insertion
    split
    · next hvacant =>
      have hd : t.device = .running := hclosed.running_of_phase (b := b) (by rw [hvacant]; simp)
      have hseated := setPhase_bonds t b hd (p := .seated) (serial?_none_iff.mpr (by rw [hvacant]; rfl)) rfl
      have hunbound : ((t.setPhase b .seated).bay b).serial? = none :=
        (hseated.serial b).trans (serial?_none_iff.mpr (by rw [hvacant]; rfl))
      exact hclosed.of_bonds (hseated.trans
        ((placeIdentify_bonds _ (hseated.device.trans hd) hunbound).trans (latch_bonds _ _ _)))
    · exact hclosed
  · unfold State.removal
    split
    · exact hclosed
    · next hseated =>
      have hd : t.device = .running := hclosed.running_of_phase (b := b) fun ho => hseated (.inl ho)
      have habandon := abandon_bonds t b
      exact ((hclosed.of_bonds habandon).leavePhase (habandon.device.trans hd) b rfl true).of_bonds (latch_bonds _ _ _)

/-- A release starts in an ACTIVE bay, and changes no binding. -/
theorem startRelease_bonds (s : State) {b : Bay} {bd : Binding} (h : (s.bay b).phase.active? = some bd) (rel : Release) :
    Bonds s (s.startRelease b bd rel) := by
  have hrecorded := modBinding_bonds s b
    (f := fun x => { x with commit := { x.commit with release := some rel } }) fun _ => by rfl
  have hon : ((s.modBinding b fun x => { x with commit := { x.commit with release := some rel } }).bay b).phase ≠ .off := by
    unfold State.modBinding
    rw [bay_modBay_same, active_eq h]
    exact fun ho => nomatch ho
  unfold State.startRelease
  dsimp only
  cases bd.commit.state with
  | idle =>
    dsimp only
    split
    · exact hrecorded.trans (completeRelease_bonds _ b _ _)
    · exact hrecorded.trans (placeFinal_bonds _ hon)
  | queued => exact hrecorded.trans (setSlot_bonds _ b (by decide) hon)
  | inFlight | reconciling => exact hrecorded
  | stopped | uncertain => exact hrecorded.trans (completeRelease_bonds _ b _ _)

theorem retryCommit_bonds (s : State) {b : Bay} {target : Nat} (h : (s.bay b).phase.retryTarget = some target) :
    Bonds s (s.retryCommit b target) := by
  refine placeRequest_bonds s b (by decide) (fun ho => ?_) fun _ => by rfl
  rw [ho] at h
  exact absurd h (by simp [Phase.retryTarget, Phase.active?])

/-! ### The store writer, the save and the load (R184 to R189) -/

theorem Linked.walkNext (h : Linked free s) : Linked free s.walkNext := by
  unfold State.walkNext
  split
  · exact h.of_bonds (.of_frame rfl rfl rfl rfl rfl)
  · rw [walkEnd_eq]
    split
    · exact linked_coldStart _
    · exact h.of_bonds (.of_frame rfl rfl rfl rfl rfl)

theorem Linked.trigger (h : Linked free s) : Linked free s.trigger := by
  have hcleared : Linked free { s with writer := { s.writer with failed := Sections.empty } } :=
    h.of_bonds (.of_frame rfl rfl rfl rfl rfl)
  unfold State.trigger
  split
  · exact h
  · dsimp only
    split
    · exact hcleared
    · exact hcleared.walkNext

theorem Linked.writeComplete (h : Linked free s) (ok : Bool) : Linked free (s.writeComplete ok) := by
  unfold State.writeComplete
  split
  · exact h
  · dsimp only
    split
    · exact Linked.walkNext (h.of_bonds (.of_frame rfl rfl rfl rfl rfl))
    · refine Linked.walkNext (Linked.of_bonds ?_ (latch_bonds _ _ _))
      exact h.of_bonds (.of_frame rfl rfl rfl rfl rfl)

theorem Linked.pfailSave (h : Linked free s) : Linked free s.pfailSave := by
  have hsaves : ∀ t : State, Bonds t { t with save := .saving } := fun t => .of_frame rfl rfl rfl rfl rfl
  unfold State.pfailSave
  split
  · exact (h.of_bonds ((shadowAll_bonds s).trans ((markDirty_bonds _ _).trans (hsaves _)))).trigger
  · exact h

theorem clearShadow_tag (e : Entry) : e.clearShadow.tag = e.tag := by
  unfold Entry.clearShadow
  split <;> rfl

theorem Linked.pfailEnd (h : Linked free s) : Linked free s.pfailEnd := by
  have hends : ∀ t : State, Bonds t { t with save := .none } := fun t => .of_frame rfl rfl rfl rfl rfl
  unfold State.pfailEnd
  split
  · exact (h.of_bonds ((setTable_bonds s (map_tag clearShadow_tag)).trans (markDirty_bonds _ _))).trigger.of_bonds
      (hends _)
  · exact h

theorem Linked.restartSave (h : Linked free s) (r : Request) : Linked free (s.restartSave r) := by
  have hevaluated : Bonds s (State.evalForSave { s with restarting := true }) :=
    Bonds.trans (t := { s with restarting := true }) (.of_frame rfl rfl rfl rfl rfl) (evalForSave_bonds _)
  have hsaves : ∀ (t : State) (x : SaveState), Bonds t (State.await { t with save := x } r true) := fun t x =>
    .of_frame rfl rfl rfl rfl rfl
  have hshadowed := h.of_bonds (hevaluated.trans ((shadowAll_bonds _).trans (markDirty_bonds _ .table)))
  unfold State.restartSave
  dsimp only
  generalize State.markDirty _ .table = t at hshadowed ⊢
  exact (hshadowed.of_bonds (hsaves t _)).trigger

/-- A stored table that a load can use has the shape of R62, and the load lets none of its entries name a bay. -/
theorem loadSections_agree (s : State) : Agree (s.loadSections.table.map Entry.tag) fun _ => none := by
  have htags : s.loadSections.table.map Entry.tag = (s.store.goodTable.getD []).map fun e => (e.serial, none) := by
    show (((s.store.goodTable).getD []).map fun e => { e with bay := none }).map Entry.tag = _
    rw [List.map_map]
    rfl
  have hshape : (s.store.goodTable.getD []).length ≤ 32 ∧ ((s.store.goodTable.getD []).map (·.serial)).Nodup := by
    cases hgood : s.store.goodTable with
    | none => exact ⟨Nat.zero_le _, List.nodup_nil⟩
    | some t =>
      have hok : tableShapeOk t = true := (Option.filter_eq_some_iff.mp hgood).2
      unfold tableShapeOk at hok
      simp only [Bool.and_eq_true, decide_eq_true_eq] at hok
      exact hok.1
  rw [htags]
  refine ⟨by rw [List.length_map]; exact hshape.1, ?_, fun x b hx => ?_, fun b x hx => absurd hx (by simp)⟩
  · rw [List.map_map]
    exact hshape.2
  · obtain ⟨e, -, he⟩ := List.mem_map.mp hx
    exact absurd (congrArg Prod.snd he) (by simp)

/-- Where no bay is bound and no lane runs, only the table's own shape is to be kept. -/
theorem linked_of_idle (hagree : Agree (s.table.map Entry.tag) fun _ => none) (hb : ∀ b, (s.bay b).serial? = none)
    (hl : ∀ l, (s.lane l).running = none) (hquiet : QuietUnlessRunning s) : Linked free s where
  agree := by rwa [show (fun b => (s.bay b).serial?) = fun _ => none from funext hb]
  slots b _ := hb b
  lanes l r _ hr := absurd ((hl l).symm.trans hr) (by simp)
  reads l r hr := absurd ((hl l).symm.trans hr) (by simp)
  quiet := hquiet

theorem loadAnswered_linked (hoff : ∀ b, (s.bay b).phase = .off) (hslot : ∀ b, (s.bay b).slot = none)
    (hl : ∀ l, (s.lane l).running = none) : Linked free s.loadAnswered := by
  have hsections := sectionsLatched_frame s
  have hentered : s.sectionsLatched.enterRunning = s.sectionsLatched.enteredRunning := by
    refine enterRunning_eq ?_ ?_ <;> rw [hsections] <;> assumption
  have hoff' : ∀ b, (s.sectionsLatched.bay b).phase = .off := by rw [hsections]; exact hoff
  have hunbound := enteredRunning_unbound hoff'
  have hlane : ∀ l, (s.sectionsLatched.enteredRunning.lane l).running = none := fun l => by
    unfold State.enteredRunning
    rw [lane_mapLanes]
    show (s.sectionsLatched.lane l).running = none
    rw [hsections]
    exact hl l
  have htable : s.sectionsLatched.enteredRunning.table = s.loadSections.table := by
    rw [enteredRunning_frame, hsections]
  have hlinked : Linked free s.sectionsLatched.enteredRunning := by
    refine linked_of_idle (by rw [htable]; exact loadSections_agree s) (fun b => serial?_none_iff.mpr (hunbound b)) hlane
      ⟨fun hn => absurd rfl hn, fun hn => ?_⟩
    rw [enteredRunning_frame] at hn
    exact nomatch hn
  rw [loadAnswered_eq, hentered]
  unfold State.loadFinished
  refine Linked.settleConverter ?_
  have htriggered : Linked free s.sectionsLatched.enteredRunning.triggeredIfDirty := by
    unfold State.triggeredIfDirty
    split
    · exact hlinked
    · exact hlinked.trigger
  unfold State.savedIfPfail
  split
  · exact htriggered.pfailSave
  · exact htriggered

theorem Linked.loadComplete (h : Linked free s) (answered p c d : Bool) :
    Linked free (s.loadComplete answered p c d) := by
  unfold State.loadComplete
  by_cases hd : s.device = .starting
  · rw [if_pos (by rw [hd]; rfl)]
    obtain ⟨hidle, hlanes⟩ := h.quiet.1 (by rw [hd]; decide)
    split
    · exact loadAnswered_linked (fun b => (hidle b).1) (fun b => (hidle b).2) hlanes
    · have hbay : ∀ b, (s.loadFailed.bay b).phase = (s.bay b).phase ∧ (s.loadFailed.bay b).slot = (s.bay b).slot := by
        intro b
        unfold State.loadFailed
        dsimp only
        rw [latch_bay, evalLines_bay, bay_mapBays]
        exact ⟨rfl, rfl⟩
      have hrest : s.loadFailed.table = [] ∧ s.loadFailed.lanes = s.lanes ∧ s.loadFailed.device = .faulted := by
        unfold State.loadFailed
        dsimp only
        rw [latch_frame]
        exact ⟨rfl, rfl, rfl⟩
      obtain ⟨htable, hlanes', hfaulted⟩ := hrest
      have hlane : ∀ l, (s.loadFailed.lane l).running = none := fun l => by
        rw [State.lane, hlanes']
        exact hlanes l
      refine linked_of_idle ?_ (fun b => serial?_none_iff.mpr ?_) hlane
        ⟨fun _ => ⟨fun b => ⟨(hbay b).1.trans (hidle b).1, (hbay b).2.trans (hidle b).2⟩, hlane⟩, fun hn => ?_⟩
      · rw [htable]
        exact ⟨Nat.zero_le _, List.nodup_nil, fun _ _ hx => absurd hx List.not_mem_nil, fun _ _ hx => absurd hx (by simp)⟩
      · rw [(hbay b).1, (hidle b).1]
        rfl
      · rw [hfaulted] at hn
        exact nomatch hn
  · rw [if_neg (by simpa using hd)]
    exact h

/-! ### Frames and the host half (R169 to R174) -/

theorem outcome_bonds (s : State) (st : LinkStatus) : Bonds s (s.outcome st) := .of_frame rfl rfl rfl rfl rfl

/-- Requests that leave the queue, or that come into it after the load (R175). -/
theorem Linked.setRequests (h : Linked free s) {x : List Request} (hx : s.device = .starting → x = []) :
    Linked free { s with requests := x } :=
  ⟨h.agree, h.slots, h.lanes, h.reads, h.quiet.1, hx⟩

theorem Linked.deliverItem (h : Linked free s) (item : Item) : Linked free (s.deliverItem item) := by
  cases item with
  | idle => exact h
  | reply r =>
    show Linked free (s.deliverReply r)
    unfold State.deliverReply
    dsimp only
    split
    · exact linked_coldStart _
    · exact h.of_bonds (.of_frame rfl rfl rfl rfl rfl)
  | notice lv pairs =>
    have hcleared : ∀ (pairs : List NoticePair) (s : State),
        Bonds s (pairs.foldl (fun t p => t.setLatch p.site p.kind none) s) := fun pairs s =>
      .foldl (f := fun t p => t.setLatch p.site p.kind none) (fun s p => .of_frame rfl rfl rfl rfl rfl) pairs s
    exact h.of_bonds (Bonds.trans (hcleared pairs s) (.of_frame rfl rfl rfl rfl rfl))

theorem Linked.endFrame (h : Linked free s) (clocked : Nat) : Linked free (s.endFrame clocked) := by
  unfold State.endFrame
  split
  · exact h
  · split
    · refine Linked.settleConverter (Linked.deliverItem ?_ _)
      exact h.of_bonds (.of_frame rfl rfl rfl rfl rfl)
    · exact h

theorem dropReservations_bonds (s : State) : Bonds s s.dropReservations :=
  Bonds.trans (t := s.mapBays fun _ r => { r with phase := r.phase.mapBinding Binding.dropReservation })
    (mapBays_bonds s fun _ => .of_mapBinding (f := Binding.dropReservation) rfl rfl fun _ => rfl)
    (.of_frame rfl rfl rfl rfl rfl)

theorem restoreService_bonds (s : State) : Bonds s s.restoreService := by
  rw [restoreService_frame]
  exact .of_frame rfl rfl rfl rfl rfl

theorem Linked.linkReset (h : Linked free s) : Linked free s.linkReset := by
  unfold State.linkReset
  split
  · exact h.of_bonds (outcome_bonds s _)
  · have hemptied : Linked free
        ({ s with requests := [], replies := [], frame := s.frame.map Frame.withdrawn } : State) :=
      (h.setRequests fun _ => rfl).of_bonds (.of_frame rfl rfl rfl rfl rfl)
    dsimp only
    split
    · exact linked_coldStart _
    · exact hemptied.of_bonds ((dropReservations_bonds _).trans
        ((restoreService_bonds _).trans (outcome_bonds _ .taken)))

theorem Linked.judgeRequest (h : Linked free s) (bytes : List Byte) (n : Nat) : Linked free (s.judgeRequest bytes n) := by
  unfold State.judgeRequest
  split
  · exact h.of_bonds (outcome_bonds s _)
  · next hd =>
    split
    · exact h.of_bonds (outcome_bonds s _)
    · split
      · unfold State.accept
        split
        · exact (h.setRequests fun hs => absurd (by rw [hs]; rfl) hd).of_bonds (outcome_bonds _ _)
        · exact h.of_bonds (outcome_bonds s _)
      · exact h.of_bonds (outcome_bonds s _)

/-! ### Takes (R172) -/

/-- A request is taken in RUNNING, or answered in FAULTED; none waits in STARTING (R172, R175). -/
theorem Linked.take (h : Linked free s) {k : ReqKind} {act : Request → State → State}
    (hr : ∀ r t, t.device = .running → Linked free t → Linked free (act r t))
    (hf : k.servedFaulted = true → ∀ r t, t.device = .faulted → Linked free t → Linked free (act r t)) :
    Linked free (s.take k act) := by
  unfold State.take
  split
  · exact h
  · next r rest hq =>
    have hnot : s.device ≠ .starting := fun hs => by
      rw [h.quiet.2 hs] at hq
      exact nomatch hq
    have hdequeued : Linked free { s with requests := rest } := h.setRequests fun hs => absurd hs hnot
    split
    · unfold State.judgeTaken
      split
      · exact hdequeued.of_bonds (reply_bonds _ _ _ _)
      · next hserved =>
        split
        · by_cases hd : s.device = .running
          · exact hr _ _ hd hdequeued
          · have hfaulted : s.device = .faulted := by
              cases hs : s.device with
              | starting => exact absurd hs hnot
              | running => exact absurd hs hd
              | faulted => rfl
            exact hf (by simpa [hfaulted] using hserved) _ _ hfaulted hdequeued
        · exact hdequeued.of_bonds (reply_bonds _ _ _ _)
    · exact h

/-- A request that a FAULTED device refuses acts in RUNNING alone. -/
theorem Linked.takeRunning (h : Linked free s) {k : ReqKind} {act : Request → State → State}
    (hk : k.servedFaulted = false) (hr : ∀ r t, t.device = .running → Linked free t → Linked free (act r t)) :
    Linked free (s.take k act) :=
  h.take hr fun hf => absurd (hk.symm.trans hf) (by decide)

theorem Linked.reply (h : Linked free s) (r : Request) (res : Result) (body : List Byte) :
    Linked free (s.reply r res body) := h.of_bonds (reply_bonds s r res body)

theorem Linked.withBay (h : Linked free s) (r : Request) {act : Bay → State} (ha : ∀ b, Linked free (act b)) :
    Linked free (s.withBay r act) := by
  unfold State.withBay
  split
  · exact ha _
  · exact h.reply _ _ _

theorem Linked.takeUnknown (h : Linked free s) : Linked free s.takeUnknown := by
  unfold State.takeUnknown
  split
  · exact h
  · next r rest hq =>
    split
    · refine Linked.reply (h.setRequests fun hs => ?_) _ _ _
      rw [h.quiet.2 hs] at hq
      exact nomatch hq
    · exact h

end

end Sys2Proof.Machine

/-! O60: the take of each request, each event and each tick keep table and bindings in agreement (R62). -/

namespace Sys2Proof.Machine

section

variable {s t : State}

/-! ### Requests -/

theorem Linked.applyTally {free : Option Lane} (h : Linked free s) (body : TallyBody) :
    Linked free (s.applyTally body) := by
  have happlied : Bonds s (s.applyEntries body.entries) := .foldl tallyEntry_bonds body.entries s
  unfold State.applyTally
  dsimp only
  refine Linked.runArbiters (h.of_bonds (Bonds.trans ?_ (handOnAll_bonds _ _)))
  split
  · exact happlied.trans (swathEnd_bonds _)
  · exact happlied

theorem Linked.applyPurge {free : Option Lane} (h : Linked free s) (b : Bay) (ms : Nat) :
    Linked free (s.applyPurge b ms) := by
  have htaken : Linked free (s.takePurge b ms) :=
    (h.of_bonds ((takeIn_bonds s b _).trans (handOnAll_bonds _ _))).runArbiters
  unfold State.applyPurge
  split
  · exact h.of_bonds (latch_bonds s _ _)
  · exact htaken
  · exact htaken

theorem Linked.applyReturn {free : Option Lane} (h : Linked free s) (b : Bay) (bd : Binding) (x : Nat) :
    Linked free (s.applyReturn b bd x) := by
  have hcredited := modBinding_bonds s b (f := fun bd => { bd with acct := (bd.acct.credit x).1 }) fun _ => by rfl
  unfold State.applyReturn
  dsimp only
  generalize s.modBinding b _ = t at hcredited ⊢
  exact (h.of_bonds (hcredited.trans ((withdraw_bonds t b).trans (handOnAll_bonds _ _)))).runArbiters

/-- A change of one bay's settings that is stored. -/
theorem storeBayCfg_bonds (s : State) (b : Bay) (f : BaySettings → BaySettings) :
    Bonds s (s.modBayCfg b f).settingsChanged := (modBayCfg_bonds s b f).trans (settingsChanged_bonds _)

theorem storeSettings_bonds (s : State) (c : Settings) : Bonds s (State.settingsChanged { s with settings := c }) :=
  Bonds.trans (t := { s with settings := c }) (.of_frame rfl rfl rfl rfl rfl) (settingsChanged_bonds _)

theorem policyChanged_bonds (s : State) (p : Policy) : Bonds s (s.policyChanged p) := by
  have hdirty : Bonds s (State.markDirty { s with policy := p } .policy) := .of_frame rfl rfl rfl rfl rfl
  exact hdirty.trans ((trigger_dirty_bonds _ (markDirty_dirty _ _)).trans (evalLines_bonds _))

theorem markRevoked_bonds (s : State) (slots : Byte) : Bonds s (s.markRevoked slots) := by
  unfold State.markRevoked
  split
  · exact .of_frame rfl rfl rfl rfl rfl
  · exact .refl s

theorem revokeKey_bonds (s : State) (k : KeySlot) : Bonds s (s.revokeKey k) := by
  unfold State.revokeKey
  dsimp only
  split
  · exact (markRevoked_bonds s _).trans (policyChanged_bonds _ _)
  · exact markRevoked_bonds s _

theorem sealPolicy_bonds (s : State) : Bonds s s.sealPolicy :=
  Bonds.trans (t := { s with oneWay := { sealMark := true, revoked := s.oneWay.revoked ||| ~~~s.policy.allowed } })
    (.of_frame rfl rfl rfl rfl rfl) (policyChanged_bonds _ _)

theorem await_bonds (s : State) (r : Request) (isRestart : Bool) : Bonds s (s.await r isRestart) :=
  .of_frame rfl rfl rfl rfl rfl

theorem setService_bonds (s : State) (x : Vector (Option (List NoticePair)) 4) : Bonds s { s with service := x } :=
  .of_frame rfl rfl rfl rfl rfl

/-- RESTART acts in RUNNING; in FAULTED it is answered (R189). -/
theorem Linked.takeRestart (h : Linked none s) : Linked none
    (s.take .restart fun r t =>
      if t.device == .faulted then t.reply r .ok []
      else if t.restarting then t.reply r .busy []
      else (t.restartSave r).runArbiters) := by
  refine h.take (fun r t _ ht => ?_) fun _ r t hd ht => ?_
  · split
    · exact ht.reply _ _ _
    · split
      · exact ht.reply _ _ _
      · exact (ht.restartSave r).runArbiters
  · rw [if_pos (by rw [hd]; rfl)]
    exact ht.reply _ _ _

/-! ### Every command -/

theorem Linked.exec {c : Instr} (hs : Linked none s) (h : exec c s = .next t) : Linked none t := by
  have hnext : ∀ u, (Host.Outcome.next u : Host.Outcome State Fault Refusal) = .next t → Linked none u → Linked none t :=
    fun u hu hk => Host.Outcome.next.inj hu ▸ hk
  cases c with
  | frameStart =>
    refine hnext _ h (Linked.settleConverter (hs.of_bonds ?_))
    exact .of_frame rfl rfl rfl rfl rfl
  | itemDelivery n => exact hnext _ h (hs.endFrame n)
  | emptyFrame => exact hnext _ h (hs.of_bonds (outcome_bonds s _))
  | linkReset => exact hnext _ h hs.linkReset
  | requestFrame bytes =>
    refine hnext _ h ?_
    split
    · exact hs.of_bonds (outcome_bonds s _)
    · split
      · exact hs.of_bonds (outcome_bonds s _)
      · split
        · exact hs.linkReset
        · exact hs.judgeRequest _ _
  | unknownKind => exact hnext _ h hs.takeUnknown
  | statusGet => exact hnext _ h (hs.take (fun _ _ _ ht => ht.reply _ _ _) fun _ _ _ _ ht => ht.reply _ _ _)
  | bayGet => exact hnext _ h (hs.takeRunning rfl fun _ _ _ ht => ht.withBay _ fun _ => ht.reply _ _ _)
  | meterGet =>
    refine hnext _ h (hs.takeRunning rfl fun _ _ _ ht => ht.withBay _ fun _ => ?_)
    split <;> exact ht.reply _ _ _
  | tableGet =>
    refine hnext _ h (hs.takeRunning rfl fun _ _ _ ht => ?_)
    split <;> exact ht.reply _ _ _
  | tally =>
    refine hnext _ h (hs.takeRunning rfl fun _ _ _ ht => ?_)
    split
    · exact ht.reply _ _ _
    · exact (ht.applyTally _).reply _ _ _
  | purgeReport =>
    exact hnext _ h (hs.takeRunning rfl fun _ _ _ ht => ht.withBay _ fun b => (ht.applyPurge b _).reply _ _ _)
  | returnReport =>
    refine hnext _ h (hs.takeRunning rfl fun _ _ _ ht => ht.withBay _ fun b => ?_)
    split
    · exact ht.reply _ _ _
    · exact (ht.applyReturn b _ _).reply _ _ _
  | dropsSet =>
    exact hnext _ h (hs.takeRunning rfl fun _ _ _ ht => ht.withBay _ fun b =>
      (ht.of_bonds (storeBayCfg_bonds _ b _)).reply _ _ _)
  | levelsSet =>
    exact hnext _ h (hs.takeRunning rfl fun _ u _ ht => ht.withBay _ fun b =>
      (ht.of_bonds ((placePair_bonds u b _).trans ((modBayCfg_bonds _ b _).trans
        ((evalLine_bonds _ b).trans (settingsChanged_bonds _))))).reply _ _ _)
  | senseSet =>
    exact hnext _ h (hs.takeRunning rfl fun _ u _ ht => ht.withBay _ fun b =>
      (ht.of_bonds ((setCalib_bonds u b _).trans
        ((settingsChanged_bonds _).trans (settleConverter_bonds _)))).reply _ _ _)
  | commitSet =>
    exact hnext _ h (hs.takeRunning rfl fun _ u _ ht => ht.withBay _ fun b =>
      (ht.of_bonds ((storeBayCfg_bonds u b _).trans (evalStep_bonds _ b))).runArbiters.reply _ _ _)
  | slotSet =>
    exact hnext _ h (hs.takeRunning rfl fun _ _ _ ht => ht.withBay _ fun b =>
      (ht.of_bonds (storeBayCfg_bonds _ b _)).reply _ _ _)
  | supplySet =>
    exact hnext _ h (hs.takeRunning rfl fun _ _ _ ht => (ht.of_bonds (storeSettings_bonds _ _)).reply _ _ _)
  | routeSet =>
    refine hnext _ h (hs.takeRunning rfl fun _ _ _ ht => ?_)
    split
    · exact (ht.of_bonds (storeSettings_bonds _ _)).reply _ _ _
    all_goals exact ht.reply _ _ _
  | maskSet =>
    exact hnext _ h (hs.takeRunning rfl fun _ _ _ ht => (ht.of_bonds (storeSettings_bonds _ _)).reply _ _ _)
  | policySet =>
    refine hnext _ h (hs.takeRunning rfl fun _ _ _ ht => ?_)
    split
    · split
      · exact ht.reply _ _ _
      · exact (ht.of_bonds (policyChanged_bonds _ _)).reply _ _ _
    · exact ht.reply _ _ _
  | keyRevoke =>
    refine hnext _ h (hs.takeRunning rfl fun _ _ _ ht => ?_)
    split
    · exact (ht.of_bonds (revokeKey_bonds _ _)).reply _ _ _
    · exact ht.reply _ _ _
  | bayRecheck =>
    refine hnext _ h (hs.takeRunning rfl fun _ _ hd ht => ht.withBay _ fun b => ?_)
    split
    · exact (ht.recheck hd b).runArbiters.reply _ _ _
    · exact ht.reply _ _ _
  | bayRelease =>
    refine hnext _ h (hs.takeRunning rfl fun _ u _ ht => ht.withBay _ fun b => ?_)
    split
    · exact ht.reply _ _ _
    · next bd hbd =>
      split
      · exact ht.reply _ _ _
      · exact (ht.of_bonds (startRelease_bonds u hbd _)).runArbiters
  | bayDisable =>
    refine hnext _ h (hs.takeRunning rfl fun _ _ hd ht => ht.withBay _ fun b => ?_)
    split
    · exact ht.reply _ _ _
    · exact ((ht.turnOff hd b).of_bonds (storeBayCfg_bonds _ b _)).settleConverter.reply _ _ _
  | bayEnable =>
    refine hnext _ h (hs.takeRunning rfl fun _ u hd ht => ht.withBay _ fun b => ?_)
    split
    · next hoff => exact (ht.of_bonds ((turnOn_bonds u hd hoff).trans (storeBayCfg_bonds _ b _))).reply _ _ _
    · exact ht.reply _ _ _
  | commitRetry =>
    refine hnext _ h (hs.takeRunning rfl fun _ u _ ht => ht.withBay _ fun b => ?_)
    split
    · next hretry => exact (ht.of_bonds (retryCommit_bonds u hretry)).runArbiters.reply _ _ _
    · exact ht.reply _ _ _
  | surveyRun =>
    refine hnext _ h (hs.takeRunning rfl fun _ u _ ht => ?_)
    split
    · exact ht.reply _ _ _
    · exact (ht.of_bonds ((setRun_bonds u _).trans (startPasses_bonds _ _))).settleConverter
  | storeSave =>
    exact hnext _ h (hs.takeRunning rfl fun _ u _ ht =>
      (ht.of_bonds ((evalForSave_bonds u).trans (await_bonds _ _ false))).trigger.runArbiters)
  | restart => exact hnext _ h hs.takeRestart
  | doze => exact hnext _ h (hs.takeRunning rfl fun _ _ _ ht => ht.reply _ _ _)
  | noticeDone =>
    refine hnext _ h (hs.takeRunning rfl fun _ u _ ht => ?_)
    split
    · exact ht.reply _ _ _
    · split
      · exact (ht.of_bonds (setService_bonds u _)).reply _ _ _
      · exact ht.reply _ _ _
  | rawPresenceChange b level =>
    refine hnext _ h ?_
    split
    · exact hs
    · have hraw : Bonds s { s with raw := put s.raw b level } := .of_frame rfl rfl rfl rfl rfl
      refine (hs.of_bonds hraw).of_bonds (modBay_bonds_same _ b ?_ ?_)
      all_goals unfold BayRec.rawChange; split <;> rfl
  | presenceWindowExpiry b =>
    refine hnext _ h ?_
    split
    · exact hs
    · split
      · exact (hs.closeWindow b _).runArbiters
      · exact hs
  | tagReply l bytes => exact hnext _ h (hs.tagReply l bytes).settleConverter
  | replyTimerExpiry l => exact hnext _ h (hs.replyExpiry l).settleConverter
  | holdLimitExpiry b => exact hnext _ h (hs.of_bonds (modBay_bonds_same s b rfl rfl))
  | surveyTimerExpiry b =>
    refine hnext _ h ?_
    split
    · exact hs
    · split
      · exact (hs.of_bonds (modBay_bonds_same s b (f := fun r => { r with wanted := true }) rfl rfl)).settleConverter
      · exact hs
  | supplyTimerExpiry l =>
    refine hnext _ h ?_
    split
    · exact hs
    · split
      · exact hs.settleConverter
      · exact hs
  | conversionComplete raw => exact hnext _ h (hs.conversionComplete _)
  | storeWriteComplete ok => exact hnext _ h (hs.writeComplete ok)
  | pfailAssert =>
    refine hnext _ h (Linked.pfailSave (hs.of_bonds ?_))
    exact .of_frame rfl rfl rfl rfl rfl
  | pfailDeassert =>
    refine hnext _ h (Linked.pfailEnd (hs.of_bonds ?_))
    exact .of_frame rfl rfl rfl rfl rfl
  | powerOn => exact hnext _ h (linked_coldStart s)
  | resetPin => exact hnext _ h (linked_coldStart s)
  | loadCompletion a p q d =>
    exact hnext _ h (hs.loadComplete a p q d)
  | laneCommandEnd l => exact hnext _ h (hs.commandEnd l).settleConverter
  -- SEAL: the command's name is a word of the language, so its case is the one that is left
  | _ =>
    refine hnext _ h (hs.takeRunning rfl fun _ _ _ ht => ?_)
    split
    · exact ht.reply _ _ _
    · exact (ht.of_bonds (sealPolicy_bonds _)).reply _ _ _

/-- One ms changes timers alone (R3). -/
theorem tick_bonds (s : State) : Bonds s s.tick := by
  rw [tick_eq]
  refine Bonds.trans (t := s.later) ?_ (.of_frame rfl rfl rfl rfl rfl)
  have hnow : Bonds s { s with now := s.now + 1 } := .of_frame rfl rfl rfl rfl rfl
  have hbays : Bonds _ ({ s with now := s.now + 1 }.mapBays fun b r => r.tick (s.bayCfg b).calib.period) :=
    mapBays_bonds _ fun b => .of_same rfl rfl
  refine hnow.trans (hbays.trans (mapLanes_bonds _ fun l r' hr' => ?_))
  obtain ⟨r, hr, rfl⟩ := Option.map_eq_some_iff.mp hr'
  exact ⟨r, hr, rfl, rfl, id, id⟩

end

/-- Settles O60: most operations leave every entry its bay, every bay its serial and every lane its operation (`Bonds`); an
unbinding takes the bay out of its entry, and a binding finds its bay not bound and its serial with no bay, so that the
entry it brings to the front is the only one that then names the bay. -/
theorem tableConsistentKept : Obligations.TableConsistentKept := by
  intro s t hs h
  rw [tableConsistent_iff] at hs ⊢
  obtain rfl | ⟨c, rest, -, hexec⟩ := step_cases s h
  · exact hs.of_bonds (tick_bonds s)
  · have hrest : Linked none { s with pending := rest } := hs.of_bonds (.of_frame rfl rfl rfl rfl rfl)
    exact hrest.exec hexec

end Sys2Proof.Machine
